-- ==== Sys2Proof/Word.lean ====
section
/-! DEFINITION. The two widths of the machine (00_scope.md R12): a byte and a 16-bit word. -/

namespace Sys2Proof

/-- A byte: 8 bits, bit 0 the least significant (R11, R12). -/
abbrev Byte := BitVec 8

/-- A word: 16 bits, an address or a program counter value (R11, R12). -/
abbrev Word := BitVec 16

end Sys2Proof
end

