-- ==== Sys2Proof/Machine/Bits.lean ====
section
/-! DEFINITION. Byte order, sign extension and bit fields (00_scope.md R11, R12). -/

namespace Sys2Proof.Machine

/-- `hi8(w)` = `w[15:8]` (R11). -/
def hi8 (w : Word) : Byte := w.extractLsb' 8 8

/-- `lo8(w)` = `w[7:0]` (R11). -/
def lo8 (w : Word) : Byte := w.extractLsb' 0 8

/-- The concatenation of two bytes, the first in the high bits (R11). -/
def mkWord (hi lo : Byte) : Word := hi ++ lo

/-- `zext_8(v)` as a 16-bit value (R12). -/
def zext (v : Byte) : Word := v.setWidth 16

/-- `sext_8(v)` as a 16-bit value (R12). -/
def sext (v : Byte) : Word := v.signExtend 16

/-- Bit `i` of a byte (R11). -/
def bit (v : Byte) (i : Nat) : Bool := v.getLsbD i

end Sys2Proof.Machine
end

