-- ==== Sys2Proof/Config.lean ====
section
/-! DEFINITION. What is fixed for one machine: the part, the platform's memory map and the parameters the spec leaves
to the model's caller (00_scope.md R8, R9); and the one opaque source of free values. -/

namespace Sys2Proof

/-- The ten parts of the family (R1, R3). They differ in pins only (R4). -/
inductive Part where
  | sy6502 | sy6503 | sy6504 | sy6505 | sy6506 | sy6507
  | sy6512 | sy6513 | sy6514 | sy6515
deriving DecidableEq, Repr

/-- What answers at a range of bus addresses (R55). -/
inductive RegionKind where
  /-- Read-write memory: a read returns the byte last written (R55). -/
  | ram
  /-- Read-only memory: a read returns its contents, a write is lost (R53, U11). -/
  | rom
  /-- No memory: a device answers by its rules, or nothing does and a read returns any value (U7, R55). -/
  | external
  /-- Read-write memory on which a device looks on and acts by its rules, after the memory. -/
  | watchedRam
  /-- Read-only memory on which a device looks on and acts by its rules, after the memory. -/
  | watchedRom
deriving DecidableEq, Repr

/-- Only memory answers: an access changes nothing but, in RAM, the byte written. -/
def RegionKind.plain : RegionKind → Bool
  | .ram => true
  | .rom => true
  | .external => false
  | .watchedRam => false
  | .watchedRom => false

/-- A range of bus addresses of one kind: `size` addresses from `base` up. -/
structure Region where
  base : Nat
  size : Nat
  kind : RegionKind
  /-- The memory location of the first address, if it is not the address itself: ranges with the same locations are
  mirrors of one memory. -/
  cell : Option Nat := none
  /-- The range answers only while the platform is in this state, if one is given: a bank that can be switched. -/
  during : Option Nat := none
deriving DecidableEq, Repr

/-- A bus access as a device sees it. -/
inductive BusAccess where
  | read
  | write (v : Byte)
deriving DecidableEq, Repr

/-- A change of one byte of the platform's memory, at a memory location. -/
structure Poke where
  cell : Nat
  val  : Byte
deriving DecidableEq, Repr

/-- One entry of the functions `read` and `write` of `MEMORY_MAP` (R55): what one access to one bus address does while the
platform is in one state. -/
structure DeviceRule where
  state  : Nat
  addr   : Nat
  access : BusAccess
  /-- The byte a read gives. None: the byte of the memory behind the device, or, with no memory there, any value. -/
  answer : Option Byte := none
  /-- The state the access leaves the platform in. -/
  next   : Nat
  /-- The bytes of the platform's memory that the access changes, oldest first. -/
  pokes  : List Poke := []
deriving DecidableEq, Repr

/-- What a clock cycle does to the platform in one state (R370): a counter of a device advances. -/
structure ClockRule where
  state : Nat
  next  : Nat
deriving DecidableEq, Repr

/-- `DECIMAL_FLAGS` (R133, D8): the flags after decimal arithmetic. -/
inductive DecimalFlags where
  /-- N, V and Z hold any value. -/
  | any
  /-- What the parts are generally known to leave (93_implementation_defined.md G4). -/
  | nmos
deriving DecidableEq, Repr

/-- `INT_I_SAMPLE` (R208, D9): which P.I masks an IRQ at a boundary. -/
inductive IntISample where
  /-- P.I as the completed instruction left it. -/
  | boundary
  /-- After CLI, SEI or PLP, the P.I from before that instruction. -/
  | delayed
deriving DecidableEq, Repr

/-- `JMP_IND_WRAP` (R169, D10): where the high byte of a pointer at the end of a page lies. -/
inductive JmpIndWrap where
  /-- At the next address. -/
  | next
  /-- At the first address of the same page. -/
  | samePage
deriving DecidableEq, Repr

/-- Everything about one machine that no instruction changes (R8, R9). The defaults are those of
92_eei_decisions.md (log 7). -/
structure Config where
  part         : Part := .sy6502
  /-- `MEMORY_MAP` (R55): the first region that holds a bus address decides; an address in no region is RAM. -/
  map          : List Region := []
  /-- `MEMORY_MAP` (R55): what devices do, as the table of the functions `read` and `write` with their side effects
  (log 8). An access with no entry changes nothing. -/
  devices      : List DeviceRule := []
  /-- The states of the platform in which a device's interrupt output holds the IRQ line low (R201, R370). -/
  requests     : List Nat := []
  /-- What each clock cycle does to the platform's state (R370; log 27). A state with no entry stays as it is. -/
  clocks       : List ClockRule := []
  decimalFlags : DecimalFlags := .any
  intISample   : IntISample := .boundary
  jmpIndWrap   : JmpIndWrap := .next
deriving DecidableEq, Repr

/-- The free value of draw number `draw` (log 6): nothing is known of it, so what is proved holds for any value. Used
where the spec says "any value": R133, U2, U4, U5, U7. -/
opaque freeByte (draw : Nat) : Byte

end Sys2Proof
end

