-- ==== Sys2Proof/Machine/State.lean ====
section
/-! DEFINITION. The state of the machine as plain data (10_state.md R20, R40, R47), the environment's schedules, the ways
a step stops, and the state after reset. -/

namespace Sys2Proof.Machine

/-- The six stored flags of the processor status register P (R28). Bits 5 and 4 of P are not state (R34, R35). -/
structure Flags where
  n : Bool
  v : Bool
  d : Bool
  i : Bool
  z : Bool
  c : Bool
deriving DecidableEq, Repr

/-- Memory: (location, byte) pairs, locations strictly rising, no byte equal to what an unlisted address reads as
(the form is `Memory.wf`). -/
abbrev Memory := List Host.Cell

/-- `RESET_DRAW` (R241): the register values a reset leaves that no source gives. -/
structure ResetDraw where
  a : Byte
  x : Byte
  y : Byte
  s : Byte
  n : Bool
  v : Bool
  d : Bool
  z : Bool
  c : Bool
deriving DecidableEq, Repr

/-- RES falls while an instruction or a sequence is under way, and rises again (R217, R240; log 21). -/
structure ResetCut where
  /-- How many accesses are made before RES falls. -/
  after   : Nat
  /-- The clock cycles from where the instruction or sequence began to the rise of RES, which no source gives. -/
  cycles  : Nat
  /-- The state the platform's devices are in when RES has risen, if not the one they were in: RES may reset them too. -/
  devices : Option Nat := none
  draw    : ResetDraw
deriving DecidableEq, Repr

/-- The environment's inputs at one instruction boundary (R204). -/
structure BoundaryInputs where
  /-- `res_asserted`, with the draw of the reset (R241). -/
  res     : Option ResetDraw := none
  /-- A high-to-low transition of NMI since the previous boundary. -/
  nmiEdge : Bool := false
  /-- Something other than the platform's devices holds the IRQ line low at the sampling moment. -/
  irqLow  : Bool := false
  /-- A negative edge on S.O. since the previous boundary. -/
  soEdge  : Bool := false
  /-- The state the platform's devices have moved to by themselves since the previous boundary (R64), or none. -/
  devices : Option Nat := none
  /-- RES falls during what this boundary starts, then during the reset sequence that follows, and so on (R217). -/
  cuts    : List ResetCut := []
deriving DecidableEq, Repr

/-- What another bus master does while RDY holds the processor (R66 (b)). -/
inductive MasterAct where
  | read (addr : Word)
  | write (addr : Word) (v : Byte)
  /-- A write that reaches the platform's memory by a path of its own, read-only memory included. -/
  | poke (cell : Nat) (v : Byte)
deriving DecidableEq, Repr

/-- What RDY does at one point where it can hold the processor (R66): the cycles it holds it, and what another bus master
does meanwhile, oldest first. -/
structure Halt where
  cycles : Nat
  acts   : List MasterAct
deriving DecidableEq, Repr

/-- RES during a step (R45, R217). -/
inductive ResPin where
  | high
  /-- It falls when so many more accesses of the processor have been made. -/
  | fallsAfter (accesses : Nat)
  | low
deriving DecidableEq, Repr

/-- What the platform remembers besides its memory (R55, R65): the state of its devices, and what they do of themselves. -/
structure Platform where
  /-- The state of the devices, among it which banks answer. -/
  state : Nat
  /-- For each coming access that a device answers or looks on: the state the devices have moved to by themselves before it
  (R64), or none. None left means they do not move (log 8). -/
  moves : List (Option Nat)
deriving DecidableEq, Repr

/-- The machine (R20, R40), its configuration, and the environment's schedules. -/
structure State where
  /-- A, the accumulator (R21). -/
  a          : Byte
  /-- X, index register (R22). -/
  x          : Byte
  /-- Y, index register (R23). -/
  y          : Byte
  /-- S, the stack pointer (R24). -/
  sp         : Byte
  /-- PC (R25): between instructions, the address of the next instruction's first byte. -/
  pc         : Word
  /-- P, the processor status register (R28). -/
  p          : Flags
  /-- `nmi_pending` (R41). -/
  nmiPending : Bool
  /-- The P.I that a just-completed CLI, SEI or PLP replaced (R208); none after any other instruction. -/
  priorMask  : Option Bool
  /-- The contents of the platform's memory, by location; with no map the location is the bus address (R40, R52, R55). -/
  mem        : Memory
  /-- The platform's devices (R55). -/
  plat       : Platform
  /-- The optional cycle counter (R255); no instruction reads it, and the time of the devices is taken from it (R370). -/
  cycles     : Nat
  /-- How many free values have been drawn (log 6). -/
  draws      : Nat
  /-- The environment's inputs at the coming boundaries; none left means nothing is asserted (log 4). -/
  inputs     : List BoundaryInputs
  /-- The RDY halts of the coming points where RDY can hold the processor: read cycles, and the cycle between the read and
  the write of a read-modify-write instruction (log 26). None left means RDY stays high (log 5). -/
  halts      : List Halt
  /-- RES during the step under way; high at every boundary (R45, R217; log 21). -/
  resPin     : ResPin
  /-- The part, the memory map and the parameters; no step changes it. -/
  cfg        : Config
deriving DecidableEq, Repr

/-- Why a step stops with a fault. -/
inductive Fault where
  /-- The first byte fetched is none of the 151 opcodes (R107, D1). Raised by `step` only; a fault of the model and no
  event of the hardware. Safe: nothing is proved of what the chip does then. -/
  | undefinedOpcode (op : Byte)
deriving DecidableEq, Repr

/-- Why an instruction is refused. -/
inductive Refusal where
  /-- The instruction has no meaning in the model yet. Raised by `exec` only. Safe. -/
  | notModelled (mnemonic : String)
deriving DecidableEq, Repr

/-- The outcome of a step or of a meaning. -/
abbrev Result := Host.Outcome State Fault Refusal

/-- The machine right after reset (R47, R240): P.I is 1, no NMI is pending, PC is the word at the reset vector, which
is 0x0000 while memory lists nothing (log 1, log 13). The registers and flags the spec gives no value are 0 (DESIGN
CHOICE, log 2); the configuration is the spec's default (log 7); the environment does nothing (log 4, log 5, log 8,
log 21). -/
def State.reset : State where
  a          := 0x00
  x          := 0x00
  y          := 0x00
  sp         := 0x00
  pc         := 0x0000
  p          := { n := false, v := false, d := false, i := true, z := false, c := false }
  nmiPending := false
  priorMask  := none
  mem        := []
  plat       := { state := 0, moves := [] }
  cycles     := 0
  draws      := 0
  inputs     := []
  halts      := []
  resPin     := .high
  cfg        := {}

end Sys2Proof.Machine
end

