-- ==== Sys2Proof/Machine/Flags.lean ====
section
/-! DEFINITION. Every flag computation of the spec: setting N and Z (R33), packing and unpacking P (R38), binary and
decimal addition and subtraction (R131, R132, R133), compare (R137), bit test (R140), shifts and rotates (R151 to R154),
increment and decrement (R141, R142). -/

namespace Sys2Proof.Machine

/-- `setNZ(v)` (R33). -/
def Flags.setNZ (p : Flags) (v : Byte) : Flags := { p with n := v.msb, z := v == 0 }

/-- `Pimage(b)` (R38): bit 5 is 1 (R35, D2), bit 4 is b (R34, D6). -/
def Flags.image (p : Flags) (b : Bool) : Byte :=
  BitVec.ofNat 8 (p.n.toNat * 128 + p.v.toNat * 64 + 32 + b.toNat * 16 + p.d.toNat * 8 + p.i.toNat * 4 + p.z.toNat * 2
    + p.c.toNat)

/-- `setP(v)` (R38): the six flags from bits 7, 6, 3, 2, 1, 0; bits 5 and 4 are ignored. -/
def Flags.ofByte (v : Byte) : Flags :=
  { n := bit v 7, v := bit v 6, d := bit v 3, i := bit v 2, z := bit v 1, c := bit v 0 }

/-- A result byte with the four flags an addition or subtraction writes. -/
structure SumOut where
  val : Byte
  n   : Bool
  v   : Bool
  z   : Bool
  c   : Bool
deriving DecidableEq, Repr

/-- ADC with P.D = 0 (R131). -/
def adcBinary (a m : Byte) (c : Bool) : SumOut :=
  let sum := a.toNat + m.toNat + c.toNat
  let r : Byte := BitVec.ofNat 8 sum
  { val := r, n := r.msb, v := a.msb == m.msb && r.msb != a.msb, z := r == 0, c := decide (255 < sum) }

/-- SBC with P.D = 0 (R132): carry is NOT borrow. -/
def sbcBinary (a m : Byte) (c : Bool) : SumOut :=
  let diff : Int := (a.toNat : Int) - m.toNat - (1 - c.toNat)
  let r : Byte := BitVec.ofInt 8 diff
  { val := r, n := r.msb, v := a.msb != m.msb && r.msb != a.msb, z := r == 0, c := decide (0 ≤ diff) }

/-- The high digit of a byte. -/
def highDigit (v : Byte) : Nat := v.toNat / 16

/-- The low digit of a byte. -/
def lowDigit (v : Byte) : Nat := v.toNat % 16

/-- Both nibbles are 0 to 9 (R133). -/
def validBcd (v : Byte) : Bool := decide (highDigit v ≤ 9) && decide (lowDigit v ≤ 9)

/-- The value of a valid BCD byte (R133). -/
def bcdValue (v : Byte) : Nat := 10 * highDigit v + lowDigit v

/-- `bcd(n)` for n in 0 to 99 (R133). -/
def bcd (n : Nat) : Byte := BitVec.ofNat 8 (16 * (n / 10) + n % 10)

/-- The sum after the low digit has been corrected and the high digits added, before the high digit is corrected
(93_implementation_defined.md G4). -/
def lowCorrectedSum (a m : Byte) (c : Bool) : Byte :=
  let low := lowDigit a + lowDigit m + c.toNat
  BitVec.ofNat 8 (16 * (highDigit a + highDigit m) + (if 9 < low then low + 6 else low))

/-- Result and flags that hold any value (U4, U5): the result byte is one free value, the four flags are bits 7, 6, 1
and 0 of another (log 6, log 20). -/
def anySum (flagDraw valDraw : Byte) : SumOut :=
  { val := valDraw, n := bit flagDraw 7, v := bit flagDraw 6, z := bit flagDraw 1, c := bit flagDraw 0 }

/-- ADC with P.D = 1 (R133, D8). `flagDraw` and `valDraw` are free values. With an operand that is not valid BCD
everything is any value (U5), under both values of DECIMAL_FLAGS (log 9). -/
def adcDecimal (df : DecimalFlags) (a m : Byte) (c : Bool) (flagDraw valDraw : Byte) : SumOut :=
  if validBcd a && validBcd m then
    let n := bcdValue a + bcdValue m + c.toNat
    let exact : SumOut := { anySum flagDraw valDraw with val := bcd (n % 100), c := decide (99 < n) }
    match df with
    | .any => exact
    | .nmos =>
      let mid := lowCorrectedSum a m c
      { exact with
        n := mid.msb
        v := a.msb == m.msb && mid.msb != a.msb
        z := (adcBinary a m c).z }
  else anySum flagDraw valDraw

/-- SBC with P.D = 1 (R133, D8); the remainder is the one in 0 to 99. -/
def sbcDecimal (df : DecimalFlags) (a m : Byte) (c : Bool) (flagDraw valDraw : Byte) : SumOut :=
  if validBcd a && validBcd m then
    let n : Int := (bcdValue a : Int) - bcdValue m - (1 - c.toNat)
    let exact : SumOut := { anySum flagDraw valDraw with val := bcd (n % 100).toNat, c := decide (0 ≤ n) }
    match df with
    | .any => exact
    | .nmos =>
      let bin := sbcBinary a m c
      { exact with n := bin.n, v := bin.v, z := bin.z, c := bin.c }
  else anySum flagDraw valDraw

/-- CMP, CPX, CPY (R137, R138, R139): the flags of register minus operand, C an unsigned comparison. -/
def Flags.compare (p : Flags) (r m : Byte) : Flags :=
  { p.setNZ (r - m) with c := decide (m.toNat ≤ r.toNat) }

/-- BIT (R140): N and V from the memory byte, Z from the AND. -/
def Flags.bitTest (p : Flags) (a m : Byte) : Flags :=
  { p with n := bit m 7, v := bit m 6, z := (a &&& m) == 0 }

/-- A byte and the flags after it was changed in place: what the read-modify-write instructions compute. -/
structure ModifyOut where
  val : Byte
  p   : Flags
deriving DecidableEq, Repr

/-- INC, INX, INY (R141): N and Z only. -/
def incByte (v : Byte) (p : Flags) : ModifyOut := { val := v + 1, p := p.setNZ (v + 1) }

/-- DEC, DEX, DEY (R142): N and Z only. -/
def decByte (v : Byte) (p : Flags) : ModifyOut := { val := v - 1, p := p.setNZ (v - 1) }

/-- ASL (R151): C is the old bit 7, 0 enters bit 0. -/
def aslByte (v : Byte) (p : Flags) : ModifyOut :=
  let r : Byte := BitVec.ofNat 8 (v.toNat * 2)
  { val := r, p := { p.setNZ r with c := bit v 7 } }

/-- LSR (R152): C is the old bit 0, 0 enters bit 7, N is 0. -/
def lsrByte (v : Byte) (p : Flags) : ModifyOut :=
  let r : Byte := BitVec.ofNat 8 (v.toNat / 2)
  { val := r, p := { p with n := false, z := r == 0, c := bit v 0 } }

/-- ROL (R153): C is the old bit 7, the old C enters bit 0. -/
def rolByte (v : Byte) (p : Flags) : ModifyOut :=
  let r : Byte := BitVec.ofNat 8 (v.toNat * 2 % 256 + p.c.toNat)
  { val := r, p := { p.setNZ r with c := bit v 7 } }

/-- ROR (R154): C is the old bit 0, the old C enters bit 7. -/
def rorByte (v : Byte) (p : Flags) : ModifyOut :=
  let r : Byte := BitVec.ofNat 8 (v.toNat / 2 + p.c.toNat * 128)
  { val := r, p := { p.setNZ r with c := bit v 0 } }

end Sys2Proof.Machine
end

