-- ==== Sys2Proof/Machine/Memory.lean ====
section
/-! DEFINITION. Memory as a sorted list of cells: what an unlisted location reads as, reading, writing, the canonical
form. -/

namespace Sys2Proof.Machine

/-- What a location that no cell lists reads as. The spec leaves RAM never written open (R55, U7): DESIGN CHOICE 0x00,
unsafe, log 1. -/
def Memory.unlisted : Byte := 0x00

/-- The byte at a location. -/
def Memory.read : Memory → Nat → Byte
  | [], _ => Memory.unlisted
  | (b, v) :: m, k => if b = k then v else Memory.read m k

/-- Store a byte at a location; storing what an unlisted location reads as removes the cell. -/
def Memory.write : Memory → Nat → Byte → Memory
  | [], k, v => if v = Memory.unlisted then [] else [(k, v)]
  | (b, w) :: m, k, v =>
    if k < b then
      if v = Memory.unlisted then (b, w) :: m else (k, v) :: (b, w) :: m
    else if k = b then
      if v = Memory.unlisted then m else (k, v) :: m
    else (b, w) :: Memory.write m k v

/-- The canonical form: locations strictly rising, no cell that holds what an unlisted location reads as. -/
abbrev Memory.wf (m : Memory) : Prop :=
  m.Pairwise (fun c d => c.1 < d.1) ∧ ∀ c ∈ m, c.2 ≠ Memory.unlisted

end Sys2Proof.Machine
end

