-- ==== Sys2Proof/Machine/Pins.lean ====
section
/-! DEFINITION. The members table: which pins each part has (00_scope.md R3, R8), and what answers at a bus address. -/

namespace Sys2Proof.Machine

/-- `ADDR_PINS` (R3, R8). -/
def addrPins : Part → Nat
  | .sy6502 => 16 | .sy6503 => 12 | .sy6504 => 13 | .sy6505 => 12 | .sy6506 => 12 | .sy6507 => 13
  | .sy6512 => 16 | .sy6513 => 12 | .sy6514 => 13 | .sy6515 => 12

/-- `HAS_IRQ` (R3, R8): false on the SY6507 only. -/
def hasIrq : Part → Bool
  | .sy6502 => true | .sy6503 => true | .sy6504 => true | .sy6505 => true | .sy6506 => true | .sy6507 => false
  | .sy6512 => true | .sy6513 => true | .sy6514 => true | .sy6515 => true

/-- `HAS_NMI` (R3, R8). -/
def hasNmi : Part → Bool
  | .sy6502 => true | .sy6503 => true | .sy6504 => false | .sy6505 => false | .sy6506 => false | .sy6507 => false
  | .sy6512 => true | .sy6513 => true | .sy6514 => false | .sy6515 => false

/-- `HAS_RDY` (R3, R8; SY6515 by 90_conflicts.md C5). -/
def hasRdy : Part → Bool
  | .sy6502 => true | .sy6503 => false | .sy6504 => false | .sy6505 => true | .sy6506 => false | .sy6507 => true
  | .sy6512 => true | .sy6513 => false | .sy6514 => false | .sy6515 => true

/-- `HAS_SO` (R3, R8). -/
def hasSo : Part → Bool
  | .sy6502 => true | .sy6503 => false | .sy6504 => false | .sy6505 => false | .sy6506 => false | .sy6507 => false
  | .sy6512 => true | .sy6513 => false | .sy6514 => false | .sy6515 => false

/-- How many bus addresses the part reaches: 65,536, 8,192 or 4,096 (R3, R52). -/
def busSize (part : Part) : Nat := 2 ^ addrPins part

/-- Whether a region holds a bus address while the platform is in a state. -/
def regionHolds (r : Region) (state k : Nat) : Bool :=
  decide (r.base ≤ k) && decide (k < r.base + r.size) && (r.during.getD state == state)

/-- The region of bus address `k` (R55): the first of the map that holds it. -/
def regionAt (map : List Region) (state k : Nat) : Option Region := map.find? (fun r => regionHolds r state k)

/-- The memory location that bus address `k` has in a region. -/
def regionCell (r : Region) (k : Nat) : Nat :=
  match r.cell with
  | none => k
  | some c => c + (k - r.base)

/-- Whether a region has a memory location of its own. -/
def regionOwns (r : Region) (cell : Nat) : Bool :=
  match r.cell with
  | none => false
  | some c => decide (c ≤ cell) && decide (cell < c + r.size)

/-- Whether the platform has a memory location: one for each bus address, and those its regions name. -/
def platformHas (cfg : Config) (cell : Nat) : Bool :=
  decide (cell < busSize cfg.part) || cfg.map.any (fun r => regionOwns r cell)

end Sys2Proof.Machine
end

