-- ==== Sys2Proof/Machine/Ops.lean ====
section
/-! DEFINITION. The named operations over registers, the bus and the stack (20_memory.md), taking an exception and
returning from one (60_exceptions.md R205, R211), and the reset sequence (70_reset_and_hazards.md R240). -/

namespace Sys2Proof.Machine

/-! ## Register writes: the one home of each field -/

def State.setA (s : State) (v : Byte) : State := { s with a := v }
def State.setX (s : State) (v : Byte) : State := { s with x := v }
def State.setY (s : State) (v : Byte) : State := { s with y := v }
def State.setSp (s : State) (v : Byte) : State := { s with sp := v }
def State.setPc (s : State) (w : Word) : State := { s with pc := w }
def State.setP (s : State) (p : Flags) : State := { s with p := p }
def State.setNmiPending (s : State) (b : Bool) : State := { s with nmiPending := b }
def State.setPriorMask (s : State) (m : Option Bool) : State := { s with priorMask := m }
def State.setMem (s : State) (m : Memory) : State := { s with mem := m }
def State.setPlat (s : State) (q : Platform) : State := { s with plat := q }
def State.setDraws (s : State) (n : Nat) : State := { s with draws := n }
def State.setInputs (s : State) (l : List BoundaryInputs) : State := { s with inputs := l }
def State.setHalts (s : State) (l : List Halt) : State := { s with halts := l }
def State.setResPin (s : State) (r : ResPin) : State := { s with resPin := r }

/-- Count cycles (R255). -/
def State.tick (s : State) (n : Nat) : State := { s with cycles := s.cycles + n }

/-- `setNZ(v)` on the state (R33). -/
def State.setNZ (s : State) (v : Byte) : State := s.setP (s.p.setNZ v)

/-! ## The bus -/

/-- A byte read, and the state after the read. -/
structure BusByte where
  val : Byte
  st  : State
deriving DecidableEq, Repr

/-- `bus_addr(addr)` (R52): the address bits the part has pins for. -/
def State.busAddr (s : State) (addr : Word) : Nat := addr.toNat % busSize s.cfg.part

/-- The region an address lies in, if any. -/
def State.regionAt (s : State) (addr : Word) : Option Region :=
  Machine.regionAt s.cfg.map s.plat.state (s.busAddr addr)

/-- What answers at an address (R55). -/
def State.kindAt (s : State) (addr : Word) : RegionKind :=
  match s.regionAt addr with
  | some r => r.kind
  | none => .ram

/-- The memory location an address reaches; without a region it is the bus address. -/
def State.cellAt (s : State) (addr : Word) : Nat :=
  match s.regionAt addr with
  | some r => regionCell r (s.busAddr addr)
  | none => s.busAddr addr

/-- What memory holds for an address, read with no bus cycle: the model's read of one byte. -/
def State.peek (s : State) (addr : Word) : Byte := Memory.read s.mem (s.cellAt addr)

/-- A byte of the platform's memory changes; a location the platform does not have holds nothing. -/
def State.poke (s : State) (cell : Nat) (v : Byte) : State :=
  if platformHas s.cfg cell then s.setMem (Memory.write s.mem cell v) else s

/-- Several bytes change, in order. -/
def State.pokeAll (s : State) (ps : List Poke) : State := ps.foldl (fun t q => t.poke q.cell q.val) s

/-- Before an access that a device sees, the devices may have moved by themselves (R64). -/
def State.devicesMove (s : State) : State :=
  match s.plat.moves with
  | [] => s
  | m :: rest => s.setPlat { state := m.getD s.plat.state, moves := rest }

/-- The entry of `MEMORY_MAP` for an access, in the platform's present state (R55). -/
def State.ruleFor (s : State) (addr : Word) (access : BusAccess) : Option DeviceRule :=
  s.cfg.devices.find? (fun r => r.state == s.plat.state && r.addr == s.busAddr addr && r.access == access)

/-- The side effects of an entry: memory first, then the platform's state. -/
def State.follow (s : State) : Option DeviceRule → State
  | none => s
  | some r => (s.pokeAll r.pokes).setPlat { s.plat with state := r.next }

/-- A read that a device sees (R55, R65); `behind` is the byte of the memory behind it. With neither an answer nor memory
the byte is any value (U7). -/
def State.deviceRead (s : State) (addr : Word) (behind : Option Byte) : BusByte :=
  let t := s.devicesMove
  let u := t.follow (t.ruleFor addr .read)
  match ((t.ruleFor addr .read).bind (·.answer)).or behind with
  | some v => { val := v, st := u }
  | none => { val := freeByte u.draws, st := u.setDraws (u.draws + 1) }

/-- A write that a device sees (R55). -/
def State.deviceWrite (s : State) (addr : Word) (v : Byte) : State :=
  let t := s.devicesMove
  t.follow (t.ruleFor addr (.write v))

/-- Memory keeps a byte. -/
def State.store (s : State) (addr : Word) (v : Byte) : State := s.setMem (Memory.write s.mem (s.cellAt addr) v)

/-- `MEMORY_MAP.read` (R55). -/
def State.platformRead (s : State) (addr : Word) : BusByte :=
  match s.kindAt addr with
  | .ram => { val := s.peek addr, st := s }
  | .rom => { val := s.peek addr, st := s }
  | .external => s.deviceRead addr none
  | .watchedRam => s.deviceRead addr (some (s.peek addr))
  | .watchedRom => s.deviceRead addr (some (s.peek addr))

/-- `MEMORY_MAP.write` (R53, R55): only RAM keeps the byte; elsewhere it is lost, with no event, but for what a device
does. -/
def State.platformWrite (s : State) (addr : Word) (v : Byte) : State :=
  match s.kindAt addr with
  | .ram => s.store addr v
  | .rom => s
  | .external => s.deviceWrite addr v
  | .watchedRam => (s.store addr v).deviceWrite addr v
  | .watchedRom => s.deviceWrite addr v

/-- One act of another bus master (R66 (b)). -/
def State.masterAct (s : State) : MasterAct → State
  | .read addr => (s.platformRead addr).st
  | .write addr v => s.platformWrite addr v
  | .poke cell v => s.poke cell v

/-- What another bus master does during a halt, in order (R66 (b)). -/
def State.masterActs (s : State) (acts : List MasterAct) : State := acts.foldl State.masterAct s

/-- A RDY halt where RDY can hold the processor (R66): no processor state changes; on a part without RDY there is none (R8,
D3), and none once RES is low (R217). -/
def State.takeHalt (s : State) : State :=
  if hasRdy s.cfg.part && s.resPin != .low then
    match s.halts with
    | [] => s
    | h :: rest => ((s.setHalts rest).tick h.cycles).masterActs h.acts
  else s

/-- RES at the processor's next access: low if the access is inhibited (R243). -/
def ResPin.next : ResPin → ResPin
  | .high => .high
  | .fallsAfter 0 => .low
  | .fallsAfter (n + 1) => .fallsAfter n
  | .low => .low

/-- A read by the processor, unless RES is low (R45, R217): then nothing is read, and what the processor sees instead is any
value, for the reset that follows to overwrite. -/
def State.processorRead (s : State) (addr : Word) : BusByte :=
  let t := s.setResPin s.resPin.next
  if t.resPin = .low then { val := freeByte t.draws, st := t.setDraws (t.draws + 1) } else t.platformRead addr

/-- `MemRead(addr, 1)` (R51): the read completes at the end of its halt, with the byte then on the bus (R66 (b)). RES may
fall during the halt (R217). -/
def State.busRead (s : State) (addr : Word) : BusByte := s.takeHalt.processorRead addr

/-- `MemWrite(addr, 1, v)` (R53): never held by RDY (R66 (c)), and inhibited while RES is low (R243). -/
def State.busWrite (s : State) (addr : Word) (v : Byte) : State :=
  let t := s.setResPin s.resPin.next
  if t.resPin = .low then t else t.platformWrite addr v

/-! ## The stack -/

/-- `STACK_PAGE` (R27, D4). -/
def stackPage : Byte := 0x01

/-- The address a stack pointer value stands for (R27). -/
def stackAddr (sp : Byte) : Word := mkWord stackPage sp

/-- `push(v)` (R60): store, then decrement. -/
def State.push (s : State) (v : Byte) : State :=
  let t := s.busWrite (stackAddr s.sp) v
  t.setSp (s.sp - 1)

/-- `pull()` (R61): increment, then read. -/
def State.pull (s : State) : BusByte :=
  let t := s.setSp (s.sp + 1)
  t.busRead (stackAddr t.sp)

/-! ## Starting an instruction -/

/-- An instruction of `len` bytes and `n` base cycles begins (R82, R255): PC moves past its bytes, and the mask held for
one boundary is forgotten (R208); CLI, SEI and PLP then set it again. -/
def State.advance (s : State) (len n : Nat) : State :=
  ((s.setPc (s.pc + BitVec.ofNat 16 len)).tick n).setPriorMask none

/-- Note (1) (R256): one more cycle when the indexing crossed a page. -/
def State.pageTick (s : State) (crossed : Bool) : State := if crossed then s.tick 1 else s

/-! ## Exceptions -/

/-- The NMI vector (R206). -/
def nmiVector : Word := 0xFFFA

/-- The reset vector (R206). -/
def resetVector : Word := 0xFFFC

/-- The vector IRQ and BRK share (R206). -/
def irqVector : Word := 0xFFFE

/-- Load PC through a vector, low byte first (R56 (b), R205). -/
def State.loadVector (s : State) (vector : Word) : State :=
  let lo := s.busRead vector
  let hi := lo.st.busRead (vector + 1)
  hi.st.setPc (mkWord hi.val lo.val)

/-- The interrupt sequence `Interrupt(vector, b)` (R205), entered with PC the address to resume at. -/
def State.interrupt (s : State) (vector : Word) (b : Bool) : State :=
  let s1 := s.push (hi8 s.pc)
  let s2 := s1.push (lo8 s.pc)
  let s3 := s2.push (s.p.image b)
  ((s3.setP { s3.p with i := true }).loadVector vector).setPriorMask none

/-- The return from an interrupt (R194, R211): pull P, then PC low, then PC high, with no increment. -/
def State.returnFromInterrupt (s : State) : State :=
  let st := s.pull
  let s1 := st.st.setP (Flags.ofByte st.val)
  let lo := s1.pull
  let hi := lo.st.pull
  hi.st.setPc (mkWord hi.val lo.val)

/-- The flags after reset (R240, R241): I is 1, the others are the draw's. -/
def ResetDraw.flags (w : ResetDraw) : Flags :=
  { n := w.n, v := w.v, d := w.d, i := true, z := w.z, c := w.c }

/-- The reset sequence (R240, R241): no write (R243), no pending NMI (D12), registers from the draw, PC through
the reset vector. Its reads are not held by RDY (R209, R217; log 10). It takes six cycles and the two vector reads
(R258). -/
def State.resetSequence (s : State) (w : ResetDraw) : State :=
  let s1 : State := { s with
    a := w.a, x := w.x, y := w.y, sp := w.s, p := w.flags, nmiPending := false, priorMask := none }
  let lo := s1.processorRead resetVector
  let hi := lo.st.processorRead (resetVector + 1)
  (hi.st.setPc (mkWord hi.val lo.val)).tick 8

end Sys2Proof.Machine
end

