-- ==== Sys2Proof/Machine/Boundary.lean ====
section
/-! DEFINITION. What happens at an instruction boundary before an instruction is fetched (60_exceptions.md R204, R207,
R208). -/

namespace Sys2Proof.Machine

/-- What a boundary leads to. -/
inductive Poll where
  /-- A reset, NMI or IRQ sequence ran; the step ends in this state. -/
  | event (s : State)
  /-- No event: an instruction is fetched and executed from this state. -/
  | execute (s : State)
deriving DecidableEq, Repr

/-- The inputs of this boundary: the oldest of the schedule, or nothing asserted (log 4). -/
def State.currentInputs (s : State) : BoundaryInputs := s.inputs.headD {}

/-- `I_seen` (R208): the mask the interrupt logic sees at this boundary. -/
def State.maskSeen (s : State) : Bool :=
  match s.cfg.intISample with
  | .boundary => s.p.i
  | .delayed => s.priorMask.getD s.p.i

/-- The platform's devices have moved by themselves to another state, or not (R64). -/
def State.platformMoved (s : State) (state : Option Nat) : State :=
  s.setPlat { s.plat with state := state.getD s.plat.state }

/-- RES during the instruction or sequence that begins (R217). -/
def resPinOf : List ResetCut → ResPin
  | [] => .high
  | cut :: _ => .fallsAfter cut.after

/-- `irq_line` is low (R201, R370): some device of the platform, or something else, holds it so. -/
def State.irqLineLow (s : State) (inp : BoundaryInputs) : Bool := inp.irqLow || s.cfg.requests.contains s.plat.state

/-- An S.O. edge sets V (R218), on a part with the pin (R8). -/
def State.sampleSo (s : State) (inp : BoundaryInputs) : State :=
  if hasSo s.cfg.part && inp.soEdge then s.setP { s.p with v := true } else s

/-- An NMI edge is remembered (R41), on a part with the pin (R8). -/
def State.sampleNmi (s : State) (inp : BoundaryInputs) : State :=
  if hasNmi s.cfg.part && inp.nmiEdge then s.setNmiPending true else s

/-- The polling of a boundary, in the order of R204: reset, S.O., NMI, IRQ. An IRQ or NMI sequence takes 7 cycles
(R258). -/
def State.poll (s : State) : Poll :=
  let inp := s.currentInputs
  let s0 := ((s.setInputs s.inputs.tail).platformMoved inp.devices).setResPin (resPinOf inp.cuts)
  match inp.res with
  | some draw => .event (s0.resetSequence draw)
  | none =>
    let s1 := (s0.sampleSo inp).sampleNmi inp
    if s1.nmiPending then .event (((s1.setNmiPending false).tick 7).interrupt nmiVector false)
    else if hasIrq s.cfg.part && s1.irqLineLow inp && !s1.maskSeen then .event ((s1.tick 7).interrupt irqVector false)
    else .execute s1

/-! ## The end of a step -/

/-- The platform's state after so many clock cycles (R370). -/
def clockDevices (rules : List ClockRule) : Nat → Nat → Nat
  | 0, state => state
  | n + 1, state =>
    clockDevices rules n
      (match rules.find? (fun r => r.state == state) with
       | none => state
       | some r => r.next)

/-- RES has fallen and risen again (R217): whatever was under way since the cycle counter stood at `start` has stopped, nothing
is saved, and the reset sequence runs, in which RES may fall again. -/
def State.afterCuts (s : State) (start : Nat) : List ResetCut → State
  | [] => s
  | cut :: rest =>
    let risen := ({ s with cycles := start + cut.cycles }.platformMoved cut.devices).setResPin (resPinOf rest)
    State.afterCuts (risen.resetSequence cut.draw) risen.cycles rest

/-- The devices' counters advance by the cycles that have passed since the counter stood at `start` (R255, R370). -/
def State.passTime (s : State) (start : Nat) : State :=
  s.setPlat { s.plat with state := clockDevices s.cfg.clocks (s.cycles - start) s.plat.state }

/-- What ends a step that began in `s`: the resets that cut it short, and the time that has passed. RES is high at the boundary
that follows. -/
def State.endStep (t s : State) : State :=
  ((t.afterCuts s.cycles s.currentInputs.cuts).passTime s.cycles).setResPin .high

end Sys2Proof.Machine
end

