-- ==== Sys2Proof/Machine/Operands.lean ====
section
/-! DEFINITION. The addressing modes that reach memory, and what the families do with an operand (30_encoding.md R86 to
R97, 20_memory.md R63). -/

namespace Sys2Proof.Machine

/-- The eight modes that give a data operand an effective address. -/
inductive Address where
  | zp (b : Byte)
  | zpX (b : Byte)
  | zpY (b : Byte)
  | abs (w : Word)
  | absX (w : Word)
  | absY (w : Word)
  | indX (b : Byte)
  | indY (b : Byte)
deriving DecidableEq, Repr

/-- An operand that is read: the immediate byte (R86), or the byte at an effective address. -/
inductive Operand where
  | imm (b : Byte)
  | mem (addr : Address)
deriving DecidableEq, Repr

/-- An effective address `EA`, whether forming it crossed a page (note (1)), and the state after the mode's own reads. -/
structure Located where
  ea      : Word
  crossed : Bool
  st      : State
deriving DecidableEq, Repr

/-- An operand `M`, whether its mode crossed a page, and the state after the reads. -/
structure Fetched where
  val     : Byte
  crossed : Bool
  st      : State
deriving DecidableEq, Repr

/-- A pointer in page zero, low byte first; its high byte wraps inside page zero (R95, R96). -/
def State.zeroPagePointer (s : State) (b : Byte) : Located :=
  let lo := s.busRead (zext b)
  let hi := lo.st.busRead (zext (b + 1))
  { ea := mkWord hi.val lo.val, crossed := false, st := hi.st }

/-- A base plus an unsigned index, mod 65536 (R91, R92, R96); the page is crossed when the high byte changes. -/
def indexed (base : Word) (index : Byte) : Word × Bool :=
  let ea := base + zext index
  (ea, hi8 ea != hi8 base)

/-- The effective address of each mode (R87 to R92, R95, R96). -/
def State.locate (s : State) : Address → Located
  | .zp b => { ea := zext b, crossed := false, st := s }
  | .zpX b => { ea := zext (b + s.x), crossed := false, st := s }
  | .zpY b => { ea := zext (b + s.y), crossed := false, st := s }
  | .abs w => { ea := w, crossed := false, st := s }
  | .absX w => { ea := (indexed w s.x).1, crossed := (indexed w s.x).2, st := s }
  | .absY w => { ea := (indexed w s.y).1, crossed := (indexed w s.y).2, st := s }
  | .indX b => s.zeroPagePointer (b + s.x)
  | .indY b =>
    let l := s.zeroPagePointer b
    { ea := (indexed l.ea l.st.y).1, crossed := (indexed l.ea l.st.y).2, st := l.st }

/-- The operand `M`, read once (R16, R86). -/
def State.operand (s : State) : Operand → Fetched
  | .imm b => { val := b, crossed := false, st := s }
  | .mem addr =>
    let l := s.locate addr
    let r := l.st.busRead l.ea
    { val := r.val, crossed := l.crossed, st := r.st }

/-- An instruction that reads an operand and acts on it, with note (1) (R63, R256). -/
def State.withOperand (s : State) (o : Operand) (act : State → Byte → State) : State :=
  let r := s.operand o
  act (r.st.pageTick r.crossed) r.val

/-- An instruction that stores a register (R63, R114): one write, no read of the target, no page cycle. -/
def State.storeAt (s : State) (addr : Address) (v : Byte) : State :=
  let l := s.locate addr
  l.st.busWrite l.ea v

/-- A read-modify-write instruction on memory (R63, R150): one read, then one write of the same address. Between the two RDY
can hold the processor and another bus master can act (R64, R69; log 26). -/
def State.modifyAt (s : State) (addr : Address) (f : Byte → Flags → ModifyOut) : State :=
  let l := s.locate addr
  let r := l.st.busRead l.ea
  let out := f r.val r.st.p
  (r.st.takeHalt.busWrite l.ea out.val).setP out.p

/-- The same in accumulator addressing (R85): no memory is touched. -/
def State.modifyA (s : State) (f : Byte → Flags → ModifyOut) : State :=
  let out := f s.a s.p
  (s.setA out.val).setP out.p

/-! ## What each family does with its operand -/

/-- LDA (R111). -/
def State.loadA (s : State) (m : Byte) : State := (s.setA m).setNZ m

/-- LDX (R112). -/
def State.loadX (s : State) (m : Byte) : State := (s.setX m).setNZ m

/-- LDY (R113). -/
def State.loadY (s : State) (m : Byte) : State := (s.setY m).setNZ m

/-- Write an addition's or subtraction's result to A and its flags to N, V, Z, C (R48). -/
def State.putSum (s : State) (o : SumOut) : State :=
  (s.setA o.val).setP { s.p with n := o.n, v := o.v, z := o.z, c := o.c }

/-- ADC (R131, R133). In decimal mode two free values are drawn. -/
def State.addToA (s : State) (m : Byte) : State :=
  if s.p.d then
    (s.setDraws (s.draws + 2)).putSum
      (adcDecimal s.cfg.decimalFlags s.a m s.p.c (freeByte s.draws) (freeByte (s.draws + 1)))
  else s.putSum (adcBinary s.a m s.p.c)

/-- SBC (R132, R133). In decimal mode two free values are drawn. -/
def State.subFromA (s : State) (m : Byte) : State :=
  if s.p.d then
    (s.setDraws (s.draws + 2)).putSum
      (sbcDecimal s.cfg.decimalFlags s.a m s.p.c (freeByte s.draws) (freeByte (s.draws + 1)))
  else s.putSum (sbcBinary s.a m s.p.c)

/-- AND (R134). -/
def State.andWithA (s : State) (m : Byte) : State := s.loadA (s.a &&& m)

/-- ORA (R135). -/
def State.orWithA (s : State) (m : Byte) : State := s.loadA (s.a ||| m)

/-- EOR (R136). -/
def State.xorWithA (s : State) (m : Byte) : State := s.loadA (s.a ^^^ m)

/-- CMP (R137). -/
def State.compareA (s : State) (m : Byte) : State := s.setP (s.p.compare s.a m)

/-- CPX (R138). -/
def State.compareX (s : State) (m : Byte) : State := s.setP (s.p.compare s.x m)

/-- CPY (R139). -/
def State.compareY (s : State) (m : Byte) : State := s.setP (s.p.compare s.y m)

/-- BIT (R140). -/
def State.bitTestA (s : State) (m : Byte) : State := s.setP (s.p.bitTest s.a m)

/-! ## Control transfers -/

/-- A conditional branch (R94, R160), with PC at the next instruction; note (2) (R257). -/
def State.branch (s : State) (taken : Bool) (off : Byte) : State :=
  if taken then
    let target := s.pc + sext off
    (s.setPc target).tick (if hi8 target = hi8 s.pc then 1 else 2)
  else s

/-- Where the high byte of an absolute indirect pointer lies (R97, R169). -/
def State.nextPointerByte (s : State) (w : Word) : Word :=
  match s.cfg.jmpIndWrap with
  | .next => w + 1
  | .samePage => mkWord (hi8 w) (lo8 w + 1)

/-- JMP absolute indirect (R97, R169): the low pointer byte is read first. -/
def State.jumpIndirect (s : State) (w : Word) : State :=
  let lo := s.busRead w
  let hi := lo.st.busRead (s.nextPointerByte w)
  hi.st.setPc (mkWord hi.val lo.val)

/-- JSR (R170), with PC at the next instruction: the address of its own last byte is pushed, high byte first. -/
def State.callSubroutine (s : State) (w : Word) : State :=
  let ret := s.pc - 1
  ((s.push (hi8 ret)).push (lo8 ret)).setPc w

/-- RTS (R171): pull low, pull high, add 1. -/
def State.returnFromSubroutine (s : State) : State :=
  let lo := s.pull
  let hi := lo.st.pull
  hi.st.setPc (mkWord hi.val lo.val + 1)

/-! ## Stack and flags -/

/-- PLA (R183). -/
def State.pullA (s : State) : State :=
  let r := s.pull
  r.st.loadA r.val

/-- PLP (R184); the mask it replaced is held for one boundary (R208). -/
def State.pullP (s : State) : State :=
  let r := s.pull
  (r.st.setP (Flags.ofByte r.val)).setPriorMask (some s.p.i)

/-- CLI and SEI (R187, R191); the mask it replaced is held for one boundary (R208). -/
def State.writeMask (s : State) (i : Bool) : State :=
  (s.setP { s.p with i := i }).setPriorMask (some s.p.i)

end Sys2Proof.Machine
end

