-- ==== Sys2Proof/Syntax.lean ====
section
/-! DEFINITION. The instruction set as syntax: one constructor for each of the 151 rows of spec/opcode_table.json
(30_encoding.md R100). The name is the mnemonic and the addressing mode; the argument is the operand: an immediate
byte `m`, a page-zero byte `b`, an absolute address `w`, a branch offset `off`. -/

namespace Sys2Proof

/-- The instructions (R100). -/
inductive Instr where
  | adcImm (m : Byte)
  | adcAbs (w : Word)
  | adcZp (b : Byte)
  | adcIndX (b : Byte)
  | adcIndY (b : Byte)
  | adcZpX (b : Byte)
  | adcAbsX (w : Word)
  | adcAbsY (w : Word)
  | andImm (m : Byte)
  | andAbs (w : Word)
  | andZp (b : Byte)
  | andIndX (b : Byte)
  | andIndY (b : Byte)
  | andZpX (b : Byte)
  | andAbsX (w : Word)
  | andAbsY (w : Word)
  | aslAbs (w : Word)
  | aslZp (b : Byte)
  | aslAcc
  | aslZpX (b : Byte)
  | aslAbsX (w : Word)
  | bcc (off : Byte)
  | bcs (off : Byte)
  | beq (off : Byte)
  | bitAbs (w : Word)
  | bitZp (b : Byte)
  | bmi (off : Byte)
  | bne (off : Byte)
  | bpl (off : Byte)
  | brk
  | bvc (off : Byte)
  | bvs (off : Byte)
  | clc
  | cld
  | cli
  | clv
  | cmpImm (m : Byte)
  | cmpAbs (w : Word)
  | cmpZp (b : Byte)
  | cmpIndX (b : Byte)
  | cmpIndY (b : Byte)
  | cmpZpX (b : Byte)
  | cmpAbsX (w : Word)
  | cmpAbsY (w : Word)
  | cpxImm (m : Byte)
  | cpxAbs (w : Word)
  | cpxZp (b : Byte)
  | cpyImm (m : Byte)
  | cpyAbs (w : Word)
  | cpyZp (b : Byte)
  | decAbs (w : Word)
  | decZp (b : Byte)
  | decZpX (b : Byte)
  | decAbsX (w : Word)
  | dex
  | dey
  | eorImm (m : Byte)
  | eorAbs (w : Word)
  | eorZp (b : Byte)
  | eorIndX (b : Byte)
  | eorIndY (b : Byte)
  | eorZpX (b : Byte)
  | eorAbsX (w : Word)
  | eorAbsY (w : Word)
  | incAbs (w : Word)
  | incZp (b : Byte)
  | incZpX (b : Byte)
  | incAbsX (w : Word)
  | inx
  | iny
  | jmpAbs (w : Word)
  | jmpInd (w : Word)
  | jsr (w : Word)
  | ldaImm (m : Byte)
  | ldaAbs (w : Word)
  | ldaZp (b : Byte)
  | ldaIndX (b : Byte)
  | ldaIndY (b : Byte)
  | ldaZpX (b : Byte)
  | ldaAbsX (w : Word)
  | ldaAbsY (w : Word)
  | ldxImm (m : Byte)
  | ldxAbs (w : Word)
  | ldxZp (b : Byte)
  | ldxAbsY (w : Word)
  | ldxZpY (b : Byte)
  | ldyImm (m : Byte)
  | ldyAbs (w : Word)
  | ldyZp (b : Byte)
  | ldyZpX (b : Byte)
  | ldyAbsX (w : Word)
  | lsrAbs (w : Word)
  | lsrZp (b : Byte)
  | lsrAcc
  | lsrZpX (b : Byte)
  | lsrAbsX (w : Word)
  | nop
  | oraImm (m : Byte)
  | oraAbs (w : Word)
  | oraZp (b : Byte)
  | oraIndX (b : Byte)
  | oraIndY (b : Byte)
  | oraZpX (b : Byte)
  | oraAbsX (w : Word)
  | oraAbsY (w : Word)
  | pha
  | php
  | pla
  | plp
  | rolAbs (w : Word)
  | rolZp (b : Byte)
  | rolAcc
  | rolZpX (b : Byte)
  | rolAbsX (w : Word)
  | rorAbs (w : Word)
  | rorZp (b : Byte)
  | rorAcc
  | rorZpX (b : Byte)
  | rorAbsX (w : Word)
  | rti
  | rts
  | sbcImm (m : Byte)
  | sbcAbs (w : Word)
  | sbcZp (b : Byte)
  | sbcIndX (b : Byte)
  | sbcIndY (b : Byte)
  | sbcZpX (b : Byte)
  | sbcAbsX (w : Word)
  | sbcAbsY (w : Word)
  | sec
  | sed
  | sei
  | staAbs (w : Word)
  | staZp (b : Byte)
  | staIndX (b : Byte)
  | staIndY (b : Byte)
  | staZpX (b : Byte)
  | staAbsX (w : Word)
  | staAbsY (w : Word)
  | stxAbs (w : Word)
  | stxZp (b : Byte)
  | stxZpY (b : Byte)
  | styAbs (w : Word)
  | styZp (b : Byte)
  | styZpX (b : Byte)
  | tax
  | tay
  | tsx
  | txa
  | txs
  | tya
deriving DecidableEq, Repr

/-- The 56 mnemonics (30_encoding.md R100, R108). -/
inductive Mnemonic where
  | adc | and | asl | bcc | bcs | beq | bit | bmi | bne | bpl | brk | bvc | bvs | clc
  | cld | cli | clv | cmp | cpx | cpy | dec | dex | dey | eor | inc | inx | iny | jmp
  | jsr | lda | ldx | ldy | lsr | nop | ora | pha | php | pla | plp | rol | ror | rti
  | rts | sbc | sec | sed | sei | sta | stx | sty | tax | tay | tsx | txa | txs | tya
deriving DecidableEq, Repr

/-- The mnemonic of an instruction: its row in the table (R100). -/
def Instr.mnemonic : Instr → Mnemonic
  | .adcImm _ => .adc
  | .adcAbs _ => .adc
  | .adcZp _ => .adc
  | .adcIndX _ => .adc
  | .adcIndY _ => .adc
  | .adcZpX _ => .adc
  | .adcAbsX _ => .adc
  | .adcAbsY _ => .adc
  | .andImm _ => .and
  | .andAbs _ => .and
  | .andZp _ => .and
  | .andIndX _ => .and
  | .andIndY _ => .and
  | .andZpX _ => .and
  | .andAbsX _ => .and
  | .andAbsY _ => .and
  | .aslAbs _ => .asl
  | .aslZp _ => .asl
  | .aslAcc => .asl
  | .aslZpX _ => .asl
  | .aslAbsX _ => .asl
  | .bcc _ => .bcc
  | .bcs _ => .bcs
  | .beq _ => .beq
  | .bitAbs _ => .bit
  | .bitZp _ => .bit
  | .bmi _ => .bmi
  | .bne _ => .bne
  | .bpl _ => .bpl
  | .brk => .brk
  | .bvc _ => .bvc
  | .bvs _ => .bvs
  | .clc => .clc
  | .cld => .cld
  | .cli => .cli
  | .clv => .clv
  | .cmpImm _ => .cmp
  | .cmpAbs _ => .cmp
  | .cmpZp _ => .cmp
  | .cmpIndX _ => .cmp
  | .cmpIndY _ => .cmp
  | .cmpZpX _ => .cmp
  | .cmpAbsX _ => .cmp
  | .cmpAbsY _ => .cmp
  | .cpxImm _ => .cpx
  | .cpxAbs _ => .cpx
  | .cpxZp _ => .cpx
  | .cpyImm _ => .cpy
  | .cpyAbs _ => .cpy
  | .cpyZp _ => .cpy
  | .decAbs _ => .dec
  | .decZp _ => .dec
  | .decZpX _ => .dec
  | .decAbsX _ => .dec
  | .dex => .dex
  | .dey => .dey
  | .eorImm _ => .eor
  | .eorAbs _ => .eor
  | .eorZp _ => .eor
  | .eorIndX _ => .eor
  | .eorIndY _ => .eor
  | .eorZpX _ => .eor
  | .eorAbsX _ => .eor
  | .eorAbsY _ => .eor
  | .incAbs _ => .inc
  | .incZp _ => .inc
  | .incZpX _ => .inc
  | .incAbsX _ => .inc
  | .inx => .inx
  | .iny => .iny
  | .jmpAbs _ => .jmp
  | .jmpInd _ => .jmp
  | .jsr _ => .jsr
  | .ldaImm _ => .lda
  | .ldaAbs _ => .lda
  | .ldaZp _ => .lda
  | .ldaIndX _ => .lda
  | .ldaIndY _ => .lda
  | .ldaZpX _ => .lda
  | .ldaAbsX _ => .lda
  | .ldaAbsY _ => .lda
  | .ldxImm _ => .ldx
  | .ldxAbs _ => .ldx
  | .ldxZp _ => .ldx
  | .ldxAbsY _ => .ldx
  | .ldxZpY _ => .ldx
  | .ldyImm _ => .ldy
  | .ldyAbs _ => .ldy
  | .ldyZp _ => .ldy
  | .ldyZpX _ => .ldy
  | .ldyAbsX _ => .ldy
  | .lsrAbs _ => .lsr
  | .lsrZp _ => .lsr
  | .lsrAcc => .lsr
  | .lsrZpX _ => .lsr
  | .lsrAbsX _ => .lsr
  | .nop => .nop
  | .oraImm _ => .ora
  | .oraAbs _ => .ora
  | .oraZp _ => .ora
  | .oraIndX _ => .ora
  | .oraIndY _ => .ora
  | .oraZpX _ => .ora
  | .oraAbsX _ => .ora
  | .oraAbsY _ => .ora
  | .pha => .pha
  | .php => .php
  | .pla => .pla
  | .plp => .plp
  | .rolAbs _ => .rol
  | .rolZp _ => .rol
  | .rolAcc => .rol
  | .rolZpX _ => .rol
  | .rolAbsX _ => .rol
  | .rorAbs _ => .ror
  | .rorZp _ => .ror
  | .rorAcc => .ror
  | .rorZpX _ => .ror
  | .rorAbsX _ => .ror
  | .rti => .rti
  | .rts => .rts
  | .sbcImm _ => .sbc
  | .sbcAbs _ => .sbc
  | .sbcZp _ => .sbc
  | .sbcIndX _ => .sbc
  | .sbcIndY _ => .sbc
  | .sbcZpX _ => .sbc
  | .sbcAbsX _ => .sbc
  | .sbcAbsY _ => .sbc
  | .sec => .sec
  | .sed => .sed
  | .sei => .sei
  | .staAbs _ => .sta
  | .staZp _ => .sta
  | .staIndX _ => .sta
  | .staIndY _ => .sta
  | .staZpX _ => .sta
  | .staAbsX _ => .sta
  | .staAbsY _ => .sta
  | .stxAbs _ => .stx
  | .stxZp _ => .stx
  | .stxZpY _ => .stx
  | .styAbs _ => .sty
  | .styZp _ => .sty
  | .styZpX _ => .sty
  | .tax => .tax
  | .tay => .tay
  | .tsx => .tsx
  | .txa => .txa
  | .txs => .txs
  | .tya => .tya

end Sys2Proof
end

