-- ==== Sys2Proof/Machine/Arithmetic.lean ====
section
/-! DEFINITION. The meanings of addition and subtraction (41_arithmetic_logic.md R131 to R133). Each
gives its row's length and base cycles to `advance` (30_encoding.md R82, R100). -/

namespace Sys2Proof.Machine

/-- ADC immediate (R131, R133, R86). -/
def execAdcImm (m : Byte) (s : State) : Result := .next ((s.advance 2 2).withOperand (.imm m) State.addToA)

/-- ADC absolute (R131, R133, R87). -/
def execAdcAbs (w : Word) (s : State) : Result := .next ((s.advance 3 4).withOperand (.mem (.abs w)) State.addToA)

/-- ADC zero page (R131, R133, R88). -/
def execAdcZp (b : Byte) (s : State) : Result := .next ((s.advance 2 3).withOperand (.mem (.zp b)) State.addToA)

/-- ADC (indirect,X) (R131, R133, R95). -/
def execAdcIndX (b : Byte) (s : State) : Result := .next ((s.advance 2 6).withOperand (.mem (.indX b)) State.addToA)

/-- ADC (indirect),Y (R131, R133, R96). -/
def execAdcIndY (b : Byte) (s : State) : Result := .next ((s.advance 2 5).withOperand (.mem (.indY b)) State.addToA)

/-- ADC zero page,X (R131, R133, R89). -/
def execAdcZpX (b : Byte) (s : State) : Result := .next ((s.advance 2 4).withOperand (.mem (.zpX b)) State.addToA)

/-- ADC absolute,X (R131, R133, R91). -/
def execAdcAbsX (w : Word) (s : State) : Result := .next ((s.advance 3 4).withOperand (.mem (.absX w)) State.addToA)

/-- ADC absolute,Y (R131, R133, R92). -/
def execAdcAbsY (w : Word) (s : State) : Result := .next ((s.advance 3 4).withOperand (.mem (.absY w)) State.addToA)

/-- SBC immediate (R132, R133, R86). -/
def execSbcImm (m : Byte) (s : State) : Result := .next ((s.advance 2 2).withOperand (.imm m) State.subFromA)

/-- SBC absolute (R132, R133, R87). -/
def execSbcAbs (w : Word) (s : State) : Result := .next ((s.advance 3 4).withOperand (.mem (.abs w)) State.subFromA)

/-- SBC zero page (R132, R133, R88). -/
def execSbcZp (b : Byte) (s : State) : Result := .next ((s.advance 2 3).withOperand (.mem (.zp b)) State.subFromA)

/-- SBC (indirect,X) (R132, R133, R95). -/
def execSbcIndX (b : Byte) (s : State) : Result := .next ((s.advance 2 6).withOperand (.mem (.indX b)) State.subFromA)

/-- SBC (indirect),Y (R132, R133, R96). -/
def execSbcIndY (b : Byte) (s : State) : Result := .next ((s.advance 2 5).withOperand (.mem (.indY b)) State.subFromA)

/-- SBC zero page,X (R132, R133, R89). -/
def execSbcZpX (b : Byte) (s : State) : Result := .next ((s.advance 2 4).withOperand (.mem (.zpX b)) State.subFromA)

/-- SBC absolute,X (R132, R133, R91). -/
def execSbcAbsX (w : Word) (s : State) : Result := .next ((s.advance 3 4).withOperand (.mem (.absX w)) State.subFromA)

/-- SBC absolute,Y (R132, R133, R92). -/
def execSbcAbsY (w : Word) (s : State) : Result := .next ((s.advance 3 4).withOperand (.mem (.absY w)) State.subFromA)

end Sys2Proof.Machine
end

