-- ==== Sys2Proof/Machine/Branch.lean ====
section
/-! DEFINITION. The meanings of the eight conditional branches (43_branch_jump.md R160 to R168). Each
gives its row's length and base cycles to `advance` (30_encoding.md R82, R100). -/

namespace Sys2Proof.Machine

/-- BCC relative (R161, R94). -/
def execBcc (off : Byte) (s : State) : Result := .next ((s.advance 2 2).branch (!s.p.c) off)

/-- BCS relative (R162, R94). -/
def execBcs (off : Byte) (s : State) : Result := .next ((s.advance 2 2).branch s.p.c off)

/-- BEQ relative (R163, R94). -/
def execBeq (off : Byte) (s : State) : Result := .next ((s.advance 2 2).branch s.p.z off)

/-- BMI relative (R164, R94). -/
def execBmi (off : Byte) (s : State) : Result := .next ((s.advance 2 2).branch s.p.n off)

/-- BNE relative (R165, R94). -/
def execBne (off : Byte) (s : State) : Result := .next ((s.advance 2 2).branch (!s.p.z) off)

/-- BPL relative (R166, R94). -/
def execBpl (off : Byte) (s : State) : Result := .next ((s.advance 2 2).branch (!s.p.n) off)

/-- BVC relative (R167, R94). -/
def execBvc (off : Byte) (s : State) : Result := .next ((s.advance 2 2).branch (!s.p.v) off)

/-- BVS relative (R168, R94). -/
def execBvs (off : Byte) (s : State) : Result := .next ((s.advance 2 2).branch s.p.v off)

end Sys2Proof.Machine
end

