-- ==== Sys2Proof/Machine/Compare.lean ====
section
/-! DEFINITION. The meanings of compares (R137 to R139). Each
gives its row's length and base cycles to `advance` (30_encoding.md R82, R100). -/

namespace Sys2Proof.Machine

/-- CMP immediate (R137, R86). -/
def execCmpImm (m : Byte) (s : State) : Result := .next ((s.advance 2 2).withOperand (.imm m) State.compareA)

/-- CMP absolute (R137, R87). -/
def execCmpAbs (w : Word) (s : State) : Result := .next ((s.advance 3 4).withOperand (.mem (.abs w)) State.compareA)

/-- CMP zero page (R137, R88). -/
def execCmpZp (b : Byte) (s : State) : Result := .next ((s.advance 2 3).withOperand (.mem (.zp b)) State.compareA)

/-- CMP (indirect,X) (R137, R95). -/
def execCmpIndX (b : Byte) (s : State) : Result := .next ((s.advance 2 6).withOperand (.mem (.indX b)) State.compareA)

/-- CMP (indirect),Y (R137, R96). -/
def execCmpIndY (b : Byte) (s : State) : Result := .next ((s.advance 2 5).withOperand (.mem (.indY b)) State.compareA)

/-- CMP zero page,X (R137, R89). -/
def execCmpZpX (b : Byte) (s : State) : Result := .next ((s.advance 2 4).withOperand (.mem (.zpX b)) State.compareA)

/-- CMP absolute,X (R137, R91). -/
def execCmpAbsX (w : Word) (s : State) : Result := .next ((s.advance 3 4).withOperand (.mem (.absX w)) State.compareA)

/-- CMP absolute,Y (R137, R92). -/
def execCmpAbsY (w : Word) (s : State) : Result := .next ((s.advance 3 4).withOperand (.mem (.absY w)) State.compareA)

/-- CPX immediate (R138, R86). -/
def execCpxImm (m : Byte) (s : State) : Result := .next ((s.advance 2 2).withOperand (.imm m) State.compareX)

/-- CPX absolute (R138, R87). -/
def execCpxAbs (w : Word) (s : State) : Result := .next ((s.advance 3 4).withOperand (.mem (.abs w)) State.compareX)

/-- CPX zero page (R138, R88). -/
def execCpxZp (b : Byte) (s : State) : Result := .next ((s.advance 2 3).withOperand (.mem (.zp b)) State.compareX)

/-- CPY immediate (R139, R86). -/
def execCpyImm (m : Byte) (s : State) : Result := .next ((s.advance 2 2).withOperand (.imm m) State.compareY)

/-- CPY absolute (R139, R87). -/
def execCpyAbs (w : Word) (s : State) : Result := .next ((s.advance 3 4).withOperand (.mem (.abs w)) State.compareY)

/-- CPY zero page (R139, R88). -/
def execCpyZp (b : Byte) (s : State) : Result := .next ((s.advance 2 3).withOperand (.mem (.zp b)) State.compareY)

end Sys2Proof.Machine
end

