-- ==== Sys2Proof/Machine/FlagOps.lean ====
section
/-! DEFINITION. The meanings of flag instructions (R185 to R191). Each
gives its row's length and base cycles to `advance` (30_encoding.md R82, R100). -/

namespace Sys2Proof.Machine

/-- CLC implied (R185, R93). -/
def execClc (s : State) : Result := .next ((s.advance 1 2).setP { s.p with c := false })

/-- CLD implied (R186, R93). -/
def execCld (s : State) : Result := .next ((s.advance 1 2).setP { s.p with d := false })

/-- CLI implied (R187, R93). -/
def execCli (s : State) : Result := .next ((s.advance 1 2).writeMask false)

/-- CLV implied (R188, R93). -/
def execClv (s : State) : Result := .next ((s.advance 1 2).setP { s.p with v := false })

/-- SEC implied (R189, R93). -/
def execSec (s : State) : Result := .next ((s.advance 1 2).setP { s.p with c := true })

/-- SED implied (R190, R93). -/
def execSed (s : State) : Result := .next ((s.advance 1 2).setP { s.p with d := true })

/-- SEI implied (R191, R93). -/
def execSei (s : State) : Result := .next ((s.advance 1 2).writeMask true)

end Sys2Proof.Machine
end

