-- ==== Sys2Proof/Machine/IncDec.lean ====
section
/-! DEFINITION. The meanings of increments and decrements (R141 to R146). Each
gives its row's length and base cycles to `advance` (30_encoding.md R82, R100). -/

namespace Sys2Proof.Machine

/-- INC absolute (R141, R87). -/
def execIncAbs (w : Word) (s : State) : Result := .next ((s.advance 3 6).modifyAt (.abs w) incByte)

/-- INC zero page (R141, R88). -/
def execIncZp (b : Byte) (s : State) : Result := .next ((s.advance 2 5).modifyAt (.zp b) incByte)

/-- INC zero page,X (R141, R89). -/
def execIncZpX (b : Byte) (s : State) : Result := .next ((s.advance 2 6).modifyAt (.zpX b) incByte)

/-- INC absolute,X (R141, R91). -/
def execIncAbsX (w : Word) (s : State) : Result := .next ((s.advance 3 7).modifyAt (.absX w) incByte)

/-- DEC absolute (R142, R87). -/
def execDecAbs (w : Word) (s : State) : Result := .next ((s.advance 3 6).modifyAt (.abs w) decByte)

/-- DEC zero page (R142, R88). -/
def execDecZp (b : Byte) (s : State) : Result := .next ((s.advance 2 5).modifyAt (.zp b) decByte)

/-- DEC zero page,X (R142, R89). -/
def execDecZpX (b : Byte) (s : State) : Result := .next ((s.advance 2 6).modifyAt (.zpX b) decByte)

/-- DEC absolute,X (R142, R91). -/
def execDecAbsX (w : Word) (s : State) : Result := .next ((s.advance 3 7).modifyAt (.absX w) decByte)

/-- INX implied (R143, R93). -/
def execInx (s : State) : Result := .next (((s.advance 1 2).setX (incByte s.x s.p).val).setP (incByte s.x s.p).p)

/-- INY implied (R144, R93). -/
def execIny (s : State) : Result := .next (((s.advance 1 2).setY (incByte s.y s.p).val).setP (incByte s.y s.p).p)

/-- DEX implied (R145, R93). -/
def execDex (s : State) : Result := .next (((s.advance 1 2).setX (decByte s.x s.p).val).setP (decByte s.x s.p).p)

/-- DEY implied (R146, R93). -/
def execDey (s : State) : Result := .next (((s.advance 1 2).setY (decByte s.y s.p).val).setP (decByte s.y s.p).p)

end Sys2Proof.Machine
end

