-- ==== Sys2Proof/Machine/Jump.lean ====
section
/-! DEFINITION. The meanings of jumps and subroutines (R169 to R171). Each
gives its row's length and base cycles to `advance` (30_encoding.md R82, R100). -/

namespace Sys2Proof.Machine

/-- JMP absolute (R169, R87). -/
def execJmpAbs (w : Word) (s : State) : Result := .next ((s.advance 3 3).setPc w)

/-- JMP absolute indirect (R169, R97). -/
def execJmpInd (w : Word) (s : State) : Result := .next ((s.advance 3 5).jumpIndirect w)

/-- JSR absolute (R170, R87). -/
def execJsr (w : Word) (s : State) : Result := .next ((s.advance 3 6).callSubroutine w)

/-- RTS implied (R171, R93). -/
def execRts (s : State) : Result := .next ((s.advance 1 6).returnFromSubroutine)

end Sys2Proof.Machine
end

