-- ==== Sys2Proof/Machine/Load.lean ====
section
/-! DEFINITION. The meanings of loads and stores (40_load_store_transfer.md R111 to R116). Each
gives its row's length and base cycles to `advance` (30_encoding.md R82, R100). -/

namespace Sys2Proof.Machine

/-- LDA immediate (R111, R86). -/
def execLdaImm (m : Byte) (s : State) : Result := .next ((s.advance 2 2).withOperand (.imm m) State.loadA)

/-- LDA absolute (R111, R87). -/
def execLdaAbs (w : Word) (s : State) : Result := .next ((s.advance 3 4).withOperand (.mem (.abs w)) State.loadA)

/-- LDA zero page (R111, R88). -/
def execLdaZp (b : Byte) (s : State) : Result := .next ((s.advance 2 3).withOperand (.mem (.zp b)) State.loadA)

/-- LDA (indirect,X) (R111, R95). -/
def execLdaIndX (b : Byte) (s : State) : Result := .next ((s.advance 2 6).withOperand (.mem (.indX b)) State.loadA)

/-- LDA (indirect),Y (R111, R96). -/
def execLdaIndY (b : Byte) (s : State) : Result := .next ((s.advance 2 5).withOperand (.mem (.indY b)) State.loadA)

/-- LDA zero page,X (R111, R89). -/
def execLdaZpX (b : Byte) (s : State) : Result := .next ((s.advance 2 4).withOperand (.mem (.zpX b)) State.loadA)

/-- LDA absolute,X (R111, R91). -/
def execLdaAbsX (w : Word) (s : State) : Result := .next ((s.advance 3 4).withOperand (.mem (.absX w)) State.loadA)

/-- LDA absolute,Y (R111, R92). -/
def execLdaAbsY (w : Word) (s : State) : Result := .next ((s.advance 3 4).withOperand (.mem (.absY w)) State.loadA)

/-- LDX immediate (R112, R86). -/
def execLdxImm (m : Byte) (s : State) : Result := .next ((s.advance 2 2).withOperand (.imm m) State.loadX)

/-- LDX absolute (R112, R87). -/
def execLdxAbs (w : Word) (s : State) : Result := .next ((s.advance 3 4).withOperand (.mem (.abs w)) State.loadX)

/-- LDX zero page (R112, R88). -/
def execLdxZp (b : Byte) (s : State) : Result := .next ((s.advance 2 3).withOperand (.mem (.zp b)) State.loadX)

/-- LDX absolute,Y (R112, R92). -/
def execLdxAbsY (w : Word) (s : State) : Result := .next ((s.advance 3 4).withOperand (.mem (.absY w)) State.loadX)

/-- LDX zero page,Y (R112, R90). -/
def execLdxZpY (b : Byte) (s : State) : Result := .next ((s.advance 2 4).withOperand (.mem (.zpY b)) State.loadX)

/-- LDY immediate (R113, R86). -/
def execLdyImm (m : Byte) (s : State) : Result := .next ((s.advance 2 2).withOperand (.imm m) State.loadY)

/-- LDY absolute (R113, R87). -/
def execLdyAbs (w : Word) (s : State) : Result := .next ((s.advance 3 4).withOperand (.mem (.abs w)) State.loadY)

/-- LDY zero page (R113, R88). -/
def execLdyZp (b : Byte) (s : State) : Result := .next ((s.advance 2 3).withOperand (.mem (.zp b)) State.loadY)

/-- LDY zero page,X (R113, R89). -/
def execLdyZpX (b : Byte) (s : State) : Result := .next ((s.advance 2 4).withOperand (.mem (.zpX b)) State.loadY)

/-- LDY absolute,X (R113, R91). -/
def execLdyAbsX (w : Word) (s : State) : Result := .next ((s.advance 3 4).withOperand (.mem (.absX w)) State.loadY)

/-- STA absolute (R114, R87). -/
def execStaAbs (w : Word) (s : State) : Result := .next ((s.advance 3 4).storeAt (.abs w) s.a)

/-- STA zero page (R114, R88). -/
def execStaZp (b : Byte) (s : State) : Result := .next ((s.advance 2 3).storeAt (.zp b) s.a)

/-- STA (indirect,X) (R114, R95). -/
def execStaIndX (b : Byte) (s : State) : Result := .next ((s.advance 2 6).storeAt (.indX b) s.a)

/-- STA (indirect),Y (R114, R96). -/
def execStaIndY (b : Byte) (s : State) : Result := .next ((s.advance 2 6).storeAt (.indY b) s.a)

/-- STA zero page,X (R114, R89). -/
def execStaZpX (b : Byte) (s : State) : Result := .next ((s.advance 2 4).storeAt (.zpX b) s.a)

/-- STA absolute,X (R114, R91). -/
def execStaAbsX (w : Word) (s : State) : Result := .next ((s.advance 3 5).storeAt (.absX w) s.a)

/-- STA absolute,Y (R114, R92). -/
def execStaAbsY (w : Word) (s : State) : Result := .next ((s.advance 3 5).storeAt (.absY w) s.a)

/-- STX absolute (R115, R87). -/
def execStxAbs (w : Word) (s : State) : Result := .next ((s.advance 3 4).storeAt (.abs w) s.x)

/-- STX zero page (R115, R88). -/
def execStxZp (b : Byte) (s : State) : Result := .next ((s.advance 2 3).storeAt (.zp b) s.x)

/-- STX zero page,Y (R115, R90). -/
def execStxZpY (b : Byte) (s : State) : Result := .next ((s.advance 2 4).storeAt (.zpY b) s.x)

/-- STY absolute (R116, R87). -/
def execStyAbs (w : Word) (s : State) : Result := .next ((s.advance 3 4).storeAt (.abs w) s.y)

/-- STY zero page (R116, R88). -/
def execStyZp (b : Byte) (s : State) : Result := .next ((s.advance 2 3).storeAt (.zp b) s.y)

/-- STY zero page,X (R116, R89). -/
def execStyZpX (b : Byte) (s : State) : Result := .next ((s.advance 2 4).storeAt (.zpX b) s.y)

end Sys2Proof.Machine
end

