-- ==== Sys2Proof/Machine/Logic.lean ====
section
/-! DEFINITION. The meanings of AND, ORA, EOR and BIT (R134 to R136, R140). Each
gives its row's length and base cycles to `advance` (30_encoding.md R82, R100). -/

namespace Sys2Proof.Machine

/-- AND immediate (R134, R86). -/
def execAndImm (m : Byte) (s : State) : Result := .next ((s.advance 2 2).withOperand (.imm m) State.andWithA)

/-- AND absolute (R134, R87). -/
def execAndAbs (w : Word) (s : State) : Result := .next ((s.advance 3 4).withOperand (.mem (.abs w)) State.andWithA)

/-- AND zero page (R134, R88). -/
def execAndZp (b : Byte) (s : State) : Result := .next ((s.advance 2 3).withOperand (.mem (.zp b)) State.andWithA)

/-- AND (indirect,X) (R134, R95). -/
def execAndIndX (b : Byte) (s : State) : Result := .next ((s.advance 2 6).withOperand (.mem (.indX b)) State.andWithA)

/-- AND (indirect),Y (R134, R96). -/
def execAndIndY (b : Byte) (s : State) : Result := .next ((s.advance 2 5).withOperand (.mem (.indY b)) State.andWithA)

/-- AND zero page,X (R134, R89). -/
def execAndZpX (b : Byte) (s : State) : Result := .next ((s.advance 2 4).withOperand (.mem (.zpX b)) State.andWithA)

/-- AND absolute,X (R134, R91). -/
def execAndAbsX (w : Word) (s : State) : Result := .next ((s.advance 3 4).withOperand (.mem (.absX w)) State.andWithA)

/-- AND absolute,Y (R134, R92). -/
def execAndAbsY (w : Word) (s : State) : Result := .next ((s.advance 3 4).withOperand (.mem (.absY w)) State.andWithA)

/-- ORA immediate (R135, R86). -/
def execOraImm (m : Byte) (s : State) : Result := .next ((s.advance 2 2).withOperand (.imm m) State.orWithA)

/-- ORA absolute (R135, R87). -/
def execOraAbs (w : Word) (s : State) : Result := .next ((s.advance 3 4).withOperand (.mem (.abs w)) State.orWithA)

/-- ORA zero page (R135, R88). -/
def execOraZp (b : Byte) (s : State) : Result := .next ((s.advance 2 3).withOperand (.mem (.zp b)) State.orWithA)

/-- ORA (indirect,X) (R135, R95). -/
def execOraIndX (b : Byte) (s : State) : Result := .next ((s.advance 2 6).withOperand (.mem (.indX b)) State.orWithA)

/-- ORA (indirect),Y (R135, R96). -/
def execOraIndY (b : Byte) (s : State) : Result := .next ((s.advance 2 5).withOperand (.mem (.indY b)) State.orWithA)

/-- ORA zero page,X (R135, R89). -/
def execOraZpX (b : Byte) (s : State) : Result := .next ((s.advance 2 4).withOperand (.mem (.zpX b)) State.orWithA)

/-- ORA absolute,X (R135, R91). -/
def execOraAbsX (w : Word) (s : State) : Result := .next ((s.advance 3 4).withOperand (.mem (.absX w)) State.orWithA)

/-- ORA absolute,Y (R135, R92). -/
def execOraAbsY (w : Word) (s : State) : Result := .next ((s.advance 3 4).withOperand (.mem (.absY w)) State.orWithA)

/-- EOR immediate (R136, R86). -/
def execEorImm (m : Byte) (s : State) : Result := .next ((s.advance 2 2).withOperand (.imm m) State.xorWithA)

/-- EOR absolute (R136, R87). -/
def execEorAbs (w : Word) (s : State) : Result := .next ((s.advance 3 4).withOperand (.mem (.abs w)) State.xorWithA)

/-- EOR zero page (R136, R88). -/
def execEorZp (b : Byte) (s : State) : Result := .next ((s.advance 2 3).withOperand (.mem (.zp b)) State.xorWithA)

/-- EOR (indirect,X) (R136, R95). -/
def execEorIndX (b : Byte) (s : State) : Result := .next ((s.advance 2 6).withOperand (.mem (.indX b)) State.xorWithA)

/-- EOR (indirect),Y (R136, R96). -/
def execEorIndY (b : Byte) (s : State) : Result := .next ((s.advance 2 5).withOperand (.mem (.indY b)) State.xorWithA)

/-- EOR zero page,X (R136, R89). -/
def execEorZpX (b : Byte) (s : State) : Result := .next ((s.advance 2 4).withOperand (.mem (.zpX b)) State.xorWithA)

/-- EOR absolute,X (R136, R91). -/
def execEorAbsX (w : Word) (s : State) : Result := .next ((s.advance 3 4).withOperand (.mem (.absX w)) State.xorWithA)

/-- EOR absolute,Y (R136, R92). -/
def execEorAbsY (w : Word) (s : State) : Result := .next ((s.advance 3 4).withOperand (.mem (.absY w)) State.xorWithA)

/-- BIT absolute (R140, R87). -/
def execBitAbs (w : Word) (s : State) : Result := .next ((s.advance 3 4).withOperand (.mem (.abs w)) State.bitTestA)

/-- BIT zero page (R140, R88). -/
def execBitZp (b : Byte) (s : State) : Result := .next ((s.advance 2 3).withOperand (.mem (.zp b)) State.bitTestA)

end Sys2Proof.Machine
end

