-- ==== Sys2Proof/Machine/Shift.lean ====
section
/-! DEFINITION. The meanings of shifts and rotates (42_shift_rotate.md R150 to R154). Each
gives its row's length and base cycles to `advance` (30_encoding.md R82, R100). -/

namespace Sys2Proof.Machine

/-- ASL absolute (R151, R87). -/
def execAslAbs (w : Word) (s : State) : Result := .next ((s.advance 3 6).modifyAt (.abs w) aslByte)

/-- ASL zero page (R151, R88). -/
def execAslZp (b : Byte) (s : State) : Result := .next ((s.advance 2 5).modifyAt (.zp b) aslByte)

/-- ASL accumulator (R151, R85). -/
def execAslAcc (s : State) : Result := .next ((s.advance 1 2).modifyA aslByte)

/-- ASL zero page,X (R151, R89). -/
def execAslZpX (b : Byte) (s : State) : Result := .next ((s.advance 2 6).modifyAt (.zpX b) aslByte)

/-- ASL absolute,X (R151, R91). -/
def execAslAbsX (w : Word) (s : State) : Result := .next ((s.advance 3 7).modifyAt (.absX w) aslByte)

/-- LSR absolute (R152, R87). -/
def execLsrAbs (w : Word) (s : State) : Result := .next ((s.advance 3 6).modifyAt (.abs w) lsrByte)

/-- LSR zero page (R152, R88). -/
def execLsrZp (b : Byte) (s : State) : Result := .next ((s.advance 2 5).modifyAt (.zp b) lsrByte)

/-- LSR accumulator (R152, R85). -/
def execLsrAcc (s : State) : Result := .next ((s.advance 1 2).modifyA lsrByte)

/-- LSR zero page,X (R152, R89). -/
def execLsrZpX (b : Byte) (s : State) : Result := .next ((s.advance 2 6).modifyAt (.zpX b) lsrByte)

/-- LSR absolute,X (R152, R91). -/
def execLsrAbsX (w : Word) (s : State) : Result := .next ((s.advance 3 7).modifyAt (.absX w) lsrByte)

/-- ROL absolute (R153, R87). -/
def execRolAbs (w : Word) (s : State) : Result := .next ((s.advance 3 6).modifyAt (.abs w) rolByte)

/-- ROL zero page (R153, R88). -/
def execRolZp (b : Byte) (s : State) : Result := .next ((s.advance 2 5).modifyAt (.zp b) rolByte)

/-- ROL accumulator (R153, R85). -/
def execRolAcc (s : State) : Result := .next ((s.advance 1 2).modifyA rolByte)

/-- ROL zero page,X (R153, R89). -/
def execRolZpX (b : Byte) (s : State) : Result := .next ((s.advance 2 6).modifyAt (.zpX b) rolByte)

/-- ROL absolute,X (R153, R91). -/
def execRolAbsX (w : Word) (s : State) : Result := .next ((s.advance 3 7).modifyAt (.absX w) rolByte)

/-- ROR absolute (R154, R87). -/
def execRorAbs (w : Word) (s : State) : Result := .next ((s.advance 3 6).modifyAt (.abs w) rorByte)

/-- ROR zero page (R154, R88). -/
def execRorZp (b : Byte) (s : State) : Result := .next ((s.advance 2 5).modifyAt (.zp b) rorByte)

/-- ROR accumulator (R154, R85). -/
def execRorAcc (s : State) : Result := .next ((s.advance 1 2).modifyA rorByte)

/-- ROR zero page,X (R154, R89). -/
def execRorZpX (b : Byte) (s : State) : Result := .next ((s.advance 2 6).modifyAt (.zpX b) rorByte)

/-- ROR absolute,X (R154, R91). -/
def execRorAbsX (w : Word) (s : State) : Result := .next ((s.advance 3 7).modifyAt (.absX w) rorByte)

end Sys2Proof.Machine
end

