-- ==== Sys2Proof/Machine/Stack.lean ====
section
/-! DEFINITION. The meanings of stack instructions (44_stack_flags_system.md R181 to R184). Each
gives its row's length and base cycles to `advance` (30_encoding.md R82, R100). -/

namespace Sys2Proof.Machine

/-- PHA implied (R181, R93). -/
def execPha (s : State) : Result := .next ((s.advance 1 3).push s.a)

/-- PHP implied (R182, R93). -/
def execPhp (s : State) : Result := .next ((s.advance 1 3).push (s.p.image true))

/-- PLA implied (R183, R93). -/
def execPla (s : State) : Result := .next ((s.advance 1 4).pullA)

/-- PLP implied (R184, R93). -/
def execPlp (s : State) : Result := .next ((s.advance 1 4).pullP)

end Sys2Proof.Machine
end

