-- ==== Sys2Proof/Machine/System.lean ====
section
/-! DEFINITION. The meanings of NOP, BRK and RTI (R192 to R194). Each
gives its row's length and base cycles to `advance` (30_encoding.md R82, R100). -/

namespace Sys2Proof.Machine

/-- NOP implied (R192, R93). -/
def execNop (s : State) : Result := .next (s.advance 1 2)

/-- BRK implied (R193, R93). -/
def execBrk (s : State) : Result := .next (((s.advance 1 7).setPc (s.pc + 2)).interrupt irqVector true)

/-- RTI implied (R194, R93). -/
def execRti (s : State) : Result := .next ((s.advance 1 6).returnFromInterrupt)

end Sys2Proof.Machine
end

