-- ==== Sys2Proof/Machine/Transfer.lean ====
section
/-! DEFINITION. The meanings of register transfers (R117 to R122). Each
gives its row's length and base cycles to `advance` (30_encoding.md R82, R100). -/

namespace Sys2Proof.Machine

/-- TAX implied (R117, R93). -/
def execTax (s : State) : Result := .next (((s.advance 1 2).setX s.a).setNZ s.a)

/-- TAY implied (R118, R93). -/
def execTay (s : State) : Result := .next (((s.advance 1 2).setY s.a).setNZ s.a)

/-- TXA implied (R119, R93). -/
def execTxa (s : State) : Result := .next (((s.advance 1 2).setA s.x).setNZ s.x)

/-- TYA implied (R120, R93). -/
def execTya (s : State) : Result := .next (((s.advance 1 2).setA s.y).setNZ s.y)

/-- TSX implied (R121, R93). -/
def execTsx (s : State) : Result := .next (((s.advance 1 2).setX s.sp).setNZ s.sp)

/-- TXS implied (R122, R93). -/
def execTxs (s : State) : Result := .next ((s.advance 1 2).setSp s.x)

end Sys2Proof.Machine
end

