-- ==== Sys2Proof/Machine/Dispatch.lean ====
section
/-! DEFINITION. Which meaning each instruction has: one arm for each constructor of `Instr`. -/

namespace Sys2Proof.Machine

/-- The meaning of an instruction. The state is the one in which the instruction's bytes have been fetched and PC still
holds the address of its first byte. -/
def exec (i : Instr) (s : State) : Host.Outcome State Fault Refusal :=
  match i with
  | .adcImm m => Sys2Proof.Machine.execAdcImm m s
  | .adcAbs w => Sys2Proof.Machine.execAdcAbs w s
  | .adcZp b => Sys2Proof.Machine.execAdcZp b s
  | .adcIndX b => Sys2Proof.Machine.execAdcIndX b s
  | .adcIndY b => Sys2Proof.Machine.execAdcIndY b s
  | .adcZpX b => Sys2Proof.Machine.execAdcZpX b s
  | .adcAbsX w => Sys2Proof.Machine.execAdcAbsX w s
  | .adcAbsY w => Sys2Proof.Machine.execAdcAbsY w s
  | .andImm m => Sys2Proof.Machine.execAndImm m s
  | .andAbs w => Sys2Proof.Machine.execAndAbs w s
  | .andZp b => Sys2Proof.Machine.execAndZp b s
  | .andIndX b => Sys2Proof.Machine.execAndIndX b s
  | .andIndY b => Sys2Proof.Machine.execAndIndY b s
  | .andZpX b => Sys2Proof.Machine.execAndZpX b s
  | .andAbsX w => Sys2Proof.Machine.execAndAbsX w s
  | .andAbsY w => Sys2Proof.Machine.execAndAbsY w s
  | .aslAbs w => Sys2Proof.Machine.execAslAbs w s
  | .aslZp b => Sys2Proof.Machine.execAslZp b s
  | .aslAcc => Sys2Proof.Machine.execAslAcc s
  | .aslZpX b => Sys2Proof.Machine.execAslZpX b s
  | .aslAbsX w => Sys2Proof.Machine.execAslAbsX w s
  | .bcc off => Sys2Proof.Machine.execBcc off s
  | .bcs off => Sys2Proof.Machine.execBcs off s
  | .beq off => Sys2Proof.Machine.execBeq off s
  | .bitAbs w => Sys2Proof.Machine.execBitAbs w s
  | .bitZp b => Sys2Proof.Machine.execBitZp b s
  | .bmi off => Sys2Proof.Machine.execBmi off s
  | .bne off => Sys2Proof.Machine.execBne off s
  | .bpl off => Sys2Proof.Machine.execBpl off s
  | .brk => Sys2Proof.Machine.execBrk s
  | .bvc off => Sys2Proof.Machine.execBvc off s
  | .bvs off => Sys2Proof.Machine.execBvs off s
  | .clc => Sys2Proof.Machine.execClc s
  | .cld => Sys2Proof.Machine.execCld s
  | .cli => Sys2Proof.Machine.execCli s
  | .clv => Sys2Proof.Machine.execClv s
  | .cmpImm m => Sys2Proof.Machine.execCmpImm m s
  | .cmpAbs w => Sys2Proof.Machine.execCmpAbs w s
  | .cmpZp b => Sys2Proof.Machine.execCmpZp b s
  | .cmpIndX b => Sys2Proof.Machine.execCmpIndX b s
  | .cmpIndY b => Sys2Proof.Machine.execCmpIndY b s
  | .cmpZpX b => Sys2Proof.Machine.execCmpZpX b s
  | .cmpAbsX w => Sys2Proof.Machine.execCmpAbsX w s
  | .cmpAbsY w => Sys2Proof.Machine.execCmpAbsY w s
  | .cpxImm m => Sys2Proof.Machine.execCpxImm m s
  | .cpxAbs w => Sys2Proof.Machine.execCpxAbs w s
  | .cpxZp b => Sys2Proof.Machine.execCpxZp b s
  | .cpyImm m => Sys2Proof.Machine.execCpyImm m s
  | .cpyAbs w => Sys2Proof.Machine.execCpyAbs w s
  | .cpyZp b => Sys2Proof.Machine.execCpyZp b s
  | .decAbs w => Sys2Proof.Machine.execDecAbs w s
  | .decZp b => Sys2Proof.Machine.execDecZp b s
  | .decZpX b => Sys2Proof.Machine.execDecZpX b s
  | .decAbsX w => Sys2Proof.Machine.execDecAbsX w s
  | .dex => Sys2Proof.Machine.execDex s
  | .dey => Sys2Proof.Machine.execDey s
  | .eorImm m => Sys2Proof.Machine.execEorImm m s
  | .eorAbs w => Sys2Proof.Machine.execEorAbs w s
  | .eorZp b => Sys2Proof.Machine.execEorZp b s
  | .eorIndX b => Sys2Proof.Machine.execEorIndX b s
  | .eorIndY b => Sys2Proof.Machine.execEorIndY b s
  | .eorZpX b => Sys2Proof.Machine.execEorZpX b s
  | .eorAbsX w => Sys2Proof.Machine.execEorAbsX w s
  | .eorAbsY w => Sys2Proof.Machine.execEorAbsY w s
  | .incAbs w => Sys2Proof.Machine.execIncAbs w s
  | .incZp b => Sys2Proof.Machine.execIncZp b s
  | .incZpX b => Sys2Proof.Machine.execIncZpX b s
  | .incAbsX w => Sys2Proof.Machine.execIncAbsX w s
  | .inx => Sys2Proof.Machine.execInx s
  | .iny => Sys2Proof.Machine.execIny s
  | .jmpAbs w => Sys2Proof.Machine.execJmpAbs w s
  | .jmpInd w => Sys2Proof.Machine.execJmpInd w s
  | .jsr w => Sys2Proof.Machine.execJsr w s
  | .ldaImm m => Sys2Proof.Machine.execLdaImm m s
  | .ldaAbs w => Sys2Proof.Machine.execLdaAbs w s
  | .ldaZp b => Sys2Proof.Machine.execLdaZp b s
  | .ldaIndX b => Sys2Proof.Machine.execLdaIndX b s
  | .ldaIndY b => Sys2Proof.Machine.execLdaIndY b s
  | .ldaZpX b => Sys2Proof.Machine.execLdaZpX b s
  | .ldaAbsX w => Sys2Proof.Machine.execLdaAbsX w s
  | .ldaAbsY w => Sys2Proof.Machine.execLdaAbsY w s
  | .ldxImm m => Sys2Proof.Machine.execLdxImm m s
  | .ldxAbs w => Sys2Proof.Machine.execLdxAbs w s
  | .ldxZp b => Sys2Proof.Machine.execLdxZp b s
  | .ldxAbsY w => Sys2Proof.Machine.execLdxAbsY w s
  | .ldxZpY b => Sys2Proof.Machine.execLdxZpY b s
  | .ldyImm m => Sys2Proof.Machine.execLdyImm m s
  | .ldyAbs w => Sys2Proof.Machine.execLdyAbs w s
  | .ldyZp b => Sys2Proof.Machine.execLdyZp b s
  | .ldyZpX b => Sys2Proof.Machine.execLdyZpX b s
  | .ldyAbsX w => Sys2Proof.Machine.execLdyAbsX w s
  | .lsrAbs w => Sys2Proof.Machine.execLsrAbs w s
  | .lsrZp b => Sys2Proof.Machine.execLsrZp b s
  | .lsrAcc => Sys2Proof.Machine.execLsrAcc s
  | .lsrZpX b => Sys2Proof.Machine.execLsrZpX b s
  | .lsrAbsX w => Sys2Proof.Machine.execLsrAbsX w s
  | .nop => Sys2Proof.Machine.execNop s
  | .oraImm m => Sys2Proof.Machine.execOraImm m s
  | .oraAbs w => Sys2Proof.Machine.execOraAbs w s
  | .oraZp b => Sys2Proof.Machine.execOraZp b s
  | .oraIndX b => Sys2Proof.Machine.execOraIndX b s
  | .oraIndY b => Sys2Proof.Machine.execOraIndY b s
  | .oraZpX b => Sys2Proof.Machine.execOraZpX b s
  | .oraAbsX w => Sys2Proof.Machine.execOraAbsX w s
  | .oraAbsY w => Sys2Proof.Machine.execOraAbsY w s
  | .pha => Sys2Proof.Machine.execPha s
  | .php => Sys2Proof.Machine.execPhp s
  | .pla => Sys2Proof.Machine.execPla s
  | .plp => Sys2Proof.Machine.execPlp s
  | .rolAbs w => Sys2Proof.Machine.execRolAbs w s
  | .rolZp b => Sys2Proof.Machine.execRolZp b s
  | .rolAcc => Sys2Proof.Machine.execRolAcc s
  | .rolZpX b => Sys2Proof.Machine.execRolZpX b s
  | .rolAbsX w => Sys2Proof.Machine.execRolAbsX w s
  | .rorAbs w => Sys2Proof.Machine.execRorAbs w s
  | .rorZp b => Sys2Proof.Machine.execRorZp b s
  | .rorAcc => Sys2Proof.Machine.execRorAcc s
  | .rorZpX b => Sys2Proof.Machine.execRorZpX b s
  | .rorAbsX w => Sys2Proof.Machine.execRorAbsX w s
  | .rti => Sys2Proof.Machine.execRti s
  | .rts => Sys2Proof.Machine.execRts s
  | .sbcImm m => Sys2Proof.Machine.execSbcImm m s
  | .sbcAbs w => Sys2Proof.Machine.execSbcAbs w s
  | .sbcZp b => Sys2Proof.Machine.execSbcZp b s
  | .sbcIndX b => Sys2Proof.Machine.execSbcIndX b s
  | .sbcIndY b => Sys2Proof.Machine.execSbcIndY b s
  | .sbcZpX b => Sys2Proof.Machine.execSbcZpX b s
  | .sbcAbsX w => Sys2Proof.Machine.execSbcAbsX w s
  | .sbcAbsY w => Sys2Proof.Machine.execSbcAbsY w s
  | .sec => Sys2Proof.Machine.execSec s
  | .sed => Sys2Proof.Machine.execSed s
  | .sei => Sys2Proof.Machine.execSei s
  | .staAbs w => Sys2Proof.Machine.execStaAbs w s
  | .staZp b => Sys2Proof.Machine.execStaZp b s
  | .staIndX b => Sys2Proof.Machine.execStaIndX b s
  | .staIndY b => Sys2Proof.Machine.execStaIndY b s
  | .staZpX b => Sys2Proof.Machine.execStaZpX b s
  | .staAbsX w => Sys2Proof.Machine.execStaAbsX w s
  | .staAbsY w => Sys2Proof.Machine.execStaAbsY w s
  | .stxAbs w => Sys2Proof.Machine.execStxAbs w s
  | .stxZp b => Sys2Proof.Machine.execStxZp b s
  | .stxZpY b => Sys2Proof.Machine.execStxZpY b s
  | .styAbs w => Sys2Proof.Machine.execStyAbs w s
  | .styZp b => Sys2Proof.Machine.execStyZp b s
  | .styZpX b => Sys2Proof.Machine.execStyZpX b s
  | .tax => Sys2Proof.Machine.execTax s
  | .tay => Sys2Proof.Machine.execTay s
  | .tsx => Sys2Proof.Machine.execTsx s
  | .txa => Sys2Proof.Machine.execTxa s
  | .txs => Sys2Proof.Machine.execTxs s
  | .tya => Sys2Proof.Machine.execTya s

end Sys2Proof.Machine
end

