-- ==== Sys2Proof/WellFormed.lean ====
section
/-! DEFINITION. When an instruction, and its image in bytes, is well formed. -/

namespace Sys2Proof

/-- Every term of `Instr` is well formed. The operand types are exactly the fields of the formats (30_encoding.md R83):
all 8 bits of each operand byte are used and no field is reserved (93_implementation_defined.md, section 1), so no
operand is out of range and nothing is left to check. -/
def Instr.wellFormed (_ : Instr) : Bool := true

/-- An instruction image is one, two or three bytes long (30_encoding.md R80). -/
def imageWellFormed (bytes : List Byte) : Bool := decide (1 ≤ bytes.length) && decide (bytes.length ≤ 3)

end Sys2Proof
end

