-- ==== Sys2Proof/Decode.lean ====
section
/-! DEFINITION. Decoding any bytes to an instruction, by the table (30_encoding.md R81, R100, R104, R105), and encoding an
instruction to its bytes, written from the same table. -/

namespace Sys2Proof

/-- Why bytes are no instruction. -/
inductive DecodeError where
  /-- There is no first byte. -/
  | noBytes
  /-- The first byte is none of the 151 opcodes (R107). -/
  | undefinedOpcode (op : Byte)
  /-- The opcode is defined but operand bytes are missing. -/
  | truncated (op : Byte)
deriving DecidableEq, Repr

/-- The thirteen addressing modes (R98). -/
inductive Mode where
  | immediate | absolute | zeroPage | accumulator | implied | indirectX | indirectY | zeroPageX | absoluteX | absoluteY | relative | absoluteIndirect | zeroPageY
deriving DecidableEq, Repr

/-- The length of an instruction follows from its mode (R105). -/
def modeLength : Mode → Nat
  | .accumulator => 1 | .implied => 1
  | .immediate => 2 | .zeroPage => 2 | .zeroPageX => 2 | .zeroPageY => 2 | .indirectX => 2 | .indirectY => 2
  | .relative => 2
  | .absolute => 3 | .absoluteX => 3 | .absoluteY => 3 | .absoluteIndirect => 3

/-- The addressing mode of each instruction: its column in the table (R100). -/
def instrMode : Instr → Mode
  | .adcImm _ => .immediate
  | .adcAbs _ => .absolute
  | .adcZp _ => .zeroPage
  | .adcIndX _ => .indirectX
  | .adcIndY _ => .indirectY
  | .adcZpX _ => .zeroPageX
  | .adcAbsX _ => .absoluteX
  | .adcAbsY _ => .absoluteY
  | .andImm _ => .immediate
  | .andAbs _ => .absolute
  | .andZp _ => .zeroPage
  | .andIndX _ => .indirectX
  | .andIndY _ => .indirectY
  | .andZpX _ => .zeroPageX
  | .andAbsX _ => .absoluteX
  | .andAbsY _ => .absoluteY
  | .aslAbs _ => .absolute
  | .aslZp _ => .zeroPage
  | .aslAcc => .accumulator
  | .aslZpX _ => .zeroPageX
  | .aslAbsX _ => .absoluteX
  | .bcc _ => .relative
  | .bcs _ => .relative
  | .beq _ => .relative
  | .bitAbs _ => .absolute
  | .bitZp _ => .zeroPage
  | .bmi _ => .relative
  | .bne _ => .relative
  | .bpl _ => .relative
  | .brk => .implied
  | .bvc _ => .relative
  | .bvs _ => .relative
  | .clc => .implied
  | .cld => .implied
  | .cli => .implied
  | .clv => .implied
  | .cmpImm _ => .immediate
  | .cmpAbs _ => .absolute
  | .cmpZp _ => .zeroPage
  | .cmpIndX _ => .indirectX
  | .cmpIndY _ => .indirectY
  | .cmpZpX _ => .zeroPageX
  | .cmpAbsX _ => .absoluteX
  | .cmpAbsY _ => .absoluteY
  | .cpxImm _ => .immediate
  | .cpxAbs _ => .absolute
  | .cpxZp _ => .zeroPage
  | .cpyImm _ => .immediate
  | .cpyAbs _ => .absolute
  | .cpyZp _ => .zeroPage
  | .decAbs _ => .absolute
  | .decZp _ => .zeroPage
  | .decZpX _ => .zeroPageX
  | .decAbsX _ => .absoluteX
  | .dex => .implied
  | .dey => .implied
  | .eorImm _ => .immediate
  | .eorAbs _ => .absolute
  | .eorZp _ => .zeroPage
  | .eorIndX _ => .indirectX
  | .eorIndY _ => .indirectY
  | .eorZpX _ => .zeroPageX
  | .eorAbsX _ => .absoluteX
  | .eorAbsY _ => .absoluteY
  | .incAbs _ => .absolute
  | .incZp _ => .zeroPage
  | .incZpX _ => .zeroPageX
  | .incAbsX _ => .absoluteX
  | .inx => .implied
  | .iny => .implied
  | .jmpAbs _ => .absolute
  | .jmpInd _ => .absoluteIndirect
  | .jsr _ => .absolute
  | .ldaImm _ => .immediate
  | .ldaAbs _ => .absolute
  | .ldaZp _ => .zeroPage
  | .ldaIndX _ => .indirectX
  | .ldaIndY _ => .indirectY
  | .ldaZpX _ => .zeroPageX
  | .ldaAbsX _ => .absoluteX
  | .ldaAbsY _ => .absoluteY
  | .ldxImm _ => .immediate
  | .ldxAbs _ => .absolute
  | .ldxZp _ => .zeroPage
  | .ldxAbsY _ => .absoluteY
  | .ldxZpY _ => .zeroPageY
  | .ldyImm _ => .immediate
  | .ldyAbs _ => .absolute
  | .ldyZp _ => .zeroPage
  | .ldyZpX _ => .zeroPageX
  | .ldyAbsX _ => .absoluteX
  | .lsrAbs _ => .absolute
  | .lsrZp _ => .zeroPage
  | .lsrAcc => .accumulator
  | .lsrZpX _ => .zeroPageX
  | .lsrAbsX _ => .absoluteX
  | .nop => .implied
  | .oraImm _ => .immediate
  | .oraAbs _ => .absolute
  | .oraZp _ => .zeroPage
  | .oraIndX _ => .indirectX
  | .oraIndY _ => .indirectY
  | .oraZpX _ => .zeroPageX
  | .oraAbsX _ => .absoluteX
  | .oraAbsY _ => .absoluteY
  | .pha => .implied
  | .php => .implied
  | .pla => .implied
  | .plp => .implied
  | .rolAbs _ => .absolute
  | .rolZp _ => .zeroPage
  | .rolAcc => .accumulator
  | .rolZpX _ => .zeroPageX
  | .rolAbsX _ => .absoluteX
  | .rorAbs _ => .absolute
  | .rorZp _ => .zeroPage
  | .rorAcc => .accumulator
  | .rorZpX _ => .zeroPageX
  | .rorAbsX _ => .absoluteX
  | .rti => .implied
  | .rts => .implied
  | .sbcImm _ => .immediate
  | .sbcAbs _ => .absolute
  | .sbcZp _ => .zeroPage
  | .sbcIndX _ => .indirectX
  | .sbcIndY _ => .indirectY
  | .sbcZpX _ => .zeroPageX
  | .sbcAbsX _ => .absoluteX
  | .sbcAbsY _ => .absoluteY
  | .sec => .implied
  | .sed => .implied
  | .sei => .implied
  | .staAbs _ => .absolute
  | .staZp _ => .zeroPage
  | .staIndX _ => .indirectX
  | .staIndY _ => .indirectY
  | .staZpX _ => .zeroPageX
  | .staAbsX _ => .absoluteX
  | .staAbsY _ => .absoluteY
  | .stxAbs _ => .absolute
  | .stxZp _ => .zeroPage
  | .stxZpY _ => .zeroPageY
  | .styAbs _ => .absolute
  | .styZp _ => .zeroPage
  | .styZpX _ => .zeroPageX
  | .tax => .implied
  | .tay => .implied
  | .tsx => .implied
  | .txa => .implied
  | .txs => .implied
  | .tya => .implied

/-- The length of an instruction in bytes (R105). -/
def instrLength (i : Instr) : Nat := modeLength (instrMode i)

/-- The instruction that an opcode and its two following bytes stand for (R100, R104); an instruction of one or two
bytes ignores the bytes after it. -/
def decodeOpcode (op b1 b2 : Byte) : Option Instr :=
  match op.toNat with
  | 0x00 => some (.brk)
  | 0x01 => some (.oraIndX b1)
  | 0x05 => some (.oraZp b1)
  | 0x06 => some (.aslZp b1)
  | 0x08 => some (.php)
  | 0x09 => some (.oraImm b1)
  | 0x0A => some (.aslAcc)
  | 0x0D => some (.oraAbs (Machine.mkWord b2 b1))
  | 0x0E => some (.aslAbs (Machine.mkWord b2 b1))
  | 0x10 => some (.bpl b1)
  | 0x11 => some (.oraIndY b1)
  | 0x15 => some (.oraZpX b1)
  | 0x16 => some (.aslZpX b1)
  | 0x18 => some (.clc)
  | 0x19 => some (.oraAbsY (Machine.mkWord b2 b1))
  | 0x1D => some (.oraAbsX (Machine.mkWord b2 b1))
  | 0x1E => some (.aslAbsX (Machine.mkWord b2 b1))
  | 0x20 => some (.jsr (Machine.mkWord b2 b1))
  | 0x21 => some (.andIndX b1)
  | 0x24 => some (.bitZp b1)
  | 0x25 => some (.andZp b1)
  | 0x26 => some (.rolZp b1)
  | 0x28 => some (.plp)
  | 0x29 => some (.andImm b1)
  | 0x2A => some (.rolAcc)
  | 0x2C => some (.bitAbs (Machine.mkWord b2 b1))
  | 0x2D => some (.andAbs (Machine.mkWord b2 b1))
  | 0x2E => some (.rolAbs (Machine.mkWord b2 b1))
  | 0x30 => some (.bmi b1)
  | 0x31 => some (.andIndY b1)
  | 0x35 => some (.andZpX b1)
  | 0x36 => some (.rolZpX b1)
  | 0x38 => some (.sec)
  | 0x39 => some (.andAbsY (Machine.mkWord b2 b1))
  | 0x3D => some (.andAbsX (Machine.mkWord b2 b1))
  | 0x3E => some (.rolAbsX (Machine.mkWord b2 b1))
  | 0x40 => some (.rti)
  | 0x41 => some (.eorIndX b1)
  | 0x45 => some (.eorZp b1)
  | 0x46 => some (.lsrZp b1)
  | 0x48 => some (.pha)
  | 0x49 => some (.eorImm b1)
  | 0x4A => some (.lsrAcc)
  | 0x4C => some (.jmpAbs (Machine.mkWord b2 b1))
  | 0x4D => some (.eorAbs (Machine.mkWord b2 b1))
  | 0x4E => some (.lsrAbs (Machine.mkWord b2 b1))
  | 0x50 => some (.bvc b1)
  | 0x51 => some (.eorIndY b1)
  | 0x55 => some (.eorZpX b1)
  | 0x56 => some (.lsrZpX b1)
  | 0x58 => some (.cli)
  | 0x59 => some (.eorAbsY (Machine.mkWord b2 b1))
  | 0x5D => some (.eorAbsX (Machine.mkWord b2 b1))
  | 0x5E => some (.lsrAbsX (Machine.mkWord b2 b1))
  | 0x60 => some (.rts)
  | 0x61 => some (.adcIndX b1)
  | 0x65 => some (.adcZp b1)
  | 0x66 => some (.rorZp b1)
  | 0x68 => some (.pla)
  | 0x69 => some (.adcImm b1)
  | 0x6A => some (.rorAcc)
  | 0x6C => some (.jmpInd (Machine.mkWord b2 b1))
  | 0x6D => some (.adcAbs (Machine.mkWord b2 b1))
  | 0x6E => some (.rorAbs (Machine.mkWord b2 b1))
  | 0x70 => some (.bvs b1)
  | 0x71 => some (.adcIndY b1)
  | 0x75 => some (.adcZpX b1)
  | 0x76 => some (.rorZpX b1)
  | 0x78 => some (.sei)
  | 0x79 => some (.adcAbsY (Machine.mkWord b2 b1))
  | 0x7D => some (.adcAbsX (Machine.mkWord b2 b1))
  | 0x7E => some (.rorAbsX (Machine.mkWord b2 b1))
  | 0x81 => some (.staIndX b1)
  | 0x84 => some (.styZp b1)
  | 0x85 => some (.staZp b1)
  | 0x86 => some (.stxZp b1)
  | 0x88 => some (.dey)
  | 0x8A => some (.txa)
  | 0x8C => some (.styAbs (Machine.mkWord b2 b1))
  | 0x8D => some (.staAbs (Machine.mkWord b2 b1))
  | 0x8E => some (.stxAbs (Machine.mkWord b2 b1))
  | 0x90 => some (.bcc b1)
  | 0x91 => some (.staIndY b1)
  | 0x94 => some (.styZpX b1)
  | 0x95 => some (.staZpX b1)
  | 0x96 => some (.stxZpY b1)
  | 0x98 => some (.tya)
  | 0x99 => some (.staAbsY (Machine.mkWord b2 b1))
  | 0x9A => some (.txs)
  | 0x9D => some (.staAbsX (Machine.mkWord b2 b1))
  | 0xA0 => some (.ldyImm b1)
  | 0xA1 => some (.ldaIndX b1)
  | 0xA2 => some (.ldxImm b1)
  | 0xA4 => some (.ldyZp b1)
  | 0xA5 => some (.ldaZp b1)
  | 0xA6 => some (.ldxZp b1)
  | 0xA8 => some (.tay)
  | 0xA9 => some (.ldaImm b1)
  | 0xAA => some (.tax)
  | 0xAC => some (.ldyAbs (Machine.mkWord b2 b1))
  | 0xAD => some (.ldaAbs (Machine.mkWord b2 b1))
  | 0xAE => some (.ldxAbs (Machine.mkWord b2 b1))
  | 0xB0 => some (.bcs b1)
  | 0xB1 => some (.ldaIndY b1)
  | 0xB4 => some (.ldyZpX b1)
  | 0xB5 => some (.ldaZpX b1)
  | 0xB6 => some (.ldxZpY b1)
  | 0xB8 => some (.clv)
  | 0xB9 => some (.ldaAbsY (Machine.mkWord b2 b1))
  | 0xBA => some (.tsx)
  | 0xBC => some (.ldyAbsX (Machine.mkWord b2 b1))
  | 0xBD => some (.ldaAbsX (Machine.mkWord b2 b1))
  | 0xBE => some (.ldxAbsY (Machine.mkWord b2 b1))
  | 0xC0 => some (.cpyImm b1)
  | 0xC1 => some (.cmpIndX b1)
  | 0xC4 => some (.cpyZp b1)
  | 0xC5 => some (.cmpZp b1)
  | 0xC6 => some (.decZp b1)
  | 0xC8 => some (.iny)
  | 0xC9 => some (.cmpImm b1)
  | 0xCA => some (.dex)
  | 0xCC => some (.cpyAbs (Machine.mkWord b2 b1))
  | 0xCD => some (.cmpAbs (Machine.mkWord b2 b1))
  | 0xCE => some (.decAbs (Machine.mkWord b2 b1))
  | 0xD0 => some (.bne b1)
  | 0xD1 => some (.cmpIndY b1)
  | 0xD5 => some (.cmpZpX b1)
  | 0xD6 => some (.decZpX b1)
  | 0xD8 => some (.cld)
  | 0xD9 => some (.cmpAbsY (Machine.mkWord b2 b1))
  | 0xDD => some (.cmpAbsX (Machine.mkWord b2 b1))
  | 0xDE => some (.decAbsX (Machine.mkWord b2 b1))
  | 0xE0 => some (.cpxImm b1)
  | 0xE1 => some (.sbcIndX b1)
  | 0xE4 => some (.cpxZp b1)
  | 0xE5 => some (.sbcZp b1)
  | 0xE6 => some (.incZp b1)
  | 0xE8 => some (.inx)
  | 0xE9 => some (.sbcImm b1)
  | 0xEA => some (.nop)
  | 0xEC => some (.cpxAbs (Machine.mkWord b2 b1))
  | 0xED => some (.sbcAbs (Machine.mkWord b2 b1))
  | 0xEE => some (.incAbs (Machine.mkWord b2 b1))
  | 0xF0 => some (.beq b1)
  | 0xF1 => some (.sbcIndY b1)
  | 0xF5 => some (.sbcZpX b1)
  | 0xF6 => some (.incZpX b1)
  | 0xF8 => some (.sed)
  | 0xF9 => some (.sbcAbsY (Machine.mkWord b2 b1))
  | 0xFD => some (.sbcAbsX (Machine.mkWord b2 b1))
  | 0xFE => some (.incAbsX (Machine.mkWord b2 b1))
  | _ => none

/-- The length that an opcode alone decides (R80, R105); none for an undefined opcode. -/
def opcodeLength (op : Byte) : Option Nat := (decodeOpcode op 0 0).map instrLength

/-- Decode the instruction at the head of a list of bytes; answers it with the bytes after it (R104). -/
def decode : List Byte → Except DecodeError (Instr × List Byte)
  | [] => .error .noBytes
  | op :: rest =>
    match opcodeLength op with
    | none => .error (.undefinedOpcode op)
    | some len =>
      if rest.length < len - 1 then .error (.truncated op)
      else
        match decodeOpcode op (rest.getD 0 0) (rest.getD 1 0) with
        | none => .error (.undefinedOpcode op)
        | some i => .ok (i, rest.drop (len - 1))

/-- The opcode of each instruction (R100). -/
def opcode : Instr → Byte
  | .adcImm _ => 0x69
  | .adcAbs _ => 0x6D
  | .adcZp _ => 0x65
  | .adcIndX _ => 0x61
  | .adcIndY _ => 0x71
  | .adcZpX _ => 0x75
  | .adcAbsX _ => 0x7D
  | .adcAbsY _ => 0x79
  | .andImm _ => 0x29
  | .andAbs _ => 0x2D
  | .andZp _ => 0x25
  | .andIndX _ => 0x21
  | .andIndY _ => 0x31
  | .andZpX _ => 0x35
  | .andAbsX _ => 0x3D
  | .andAbsY _ => 0x39
  | .aslAbs _ => 0x0E
  | .aslZp _ => 0x06
  | .aslAcc => 0x0A
  | .aslZpX _ => 0x16
  | .aslAbsX _ => 0x1E
  | .bcc _ => 0x90
  | .bcs _ => 0xB0
  | .beq _ => 0xF0
  | .bitAbs _ => 0x2C
  | .bitZp _ => 0x24
  | .bmi _ => 0x30
  | .bne _ => 0xD0
  | .bpl _ => 0x10
  | .brk => 0x00
  | .bvc _ => 0x50
  | .bvs _ => 0x70
  | .clc => 0x18
  | .cld => 0xD8
  | .cli => 0x58
  | .clv => 0xB8
  | .cmpImm _ => 0xC9
  | .cmpAbs _ => 0xCD
  | .cmpZp _ => 0xC5
  | .cmpIndX _ => 0xC1
  | .cmpIndY _ => 0xD1
  | .cmpZpX _ => 0xD5
  | .cmpAbsX _ => 0xDD
  | .cmpAbsY _ => 0xD9
  | .cpxImm _ => 0xE0
  | .cpxAbs _ => 0xEC
  | .cpxZp _ => 0xE4
  | .cpyImm _ => 0xC0
  | .cpyAbs _ => 0xCC
  | .cpyZp _ => 0xC4
  | .decAbs _ => 0xCE
  | .decZp _ => 0xC6
  | .decZpX _ => 0xD6
  | .decAbsX _ => 0xDE
  | .dex => 0xCA
  | .dey => 0x88
  | .eorImm _ => 0x49
  | .eorAbs _ => 0x4D
  | .eorZp _ => 0x45
  | .eorIndX _ => 0x41
  | .eorIndY _ => 0x51
  | .eorZpX _ => 0x55
  | .eorAbsX _ => 0x5D
  | .eorAbsY _ => 0x59
  | .incAbs _ => 0xEE
  | .incZp _ => 0xE6
  | .incZpX _ => 0xF6
  | .incAbsX _ => 0xFE
  | .inx => 0xE8
  | .iny => 0xC8
  | .jmpAbs _ => 0x4C
  | .jmpInd _ => 0x6C
  | .jsr _ => 0x20
  | .ldaImm _ => 0xA9
  | .ldaAbs _ => 0xAD
  | .ldaZp _ => 0xA5
  | .ldaIndX _ => 0xA1
  | .ldaIndY _ => 0xB1
  | .ldaZpX _ => 0xB5
  | .ldaAbsX _ => 0xBD
  | .ldaAbsY _ => 0xB9
  | .ldxImm _ => 0xA2
  | .ldxAbs _ => 0xAE
  | .ldxZp _ => 0xA6
  | .ldxAbsY _ => 0xBE
  | .ldxZpY _ => 0xB6
  | .ldyImm _ => 0xA0
  | .ldyAbs _ => 0xAC
  | .ldyZp _ => 0xA4
  | .ldyZpX _ => 0xB4
  | .ldyAbsX _ => 0xBC
  | .lsrAbs _ => 0x4E
  | .lsrZp _ => 0x46
  | .lsrAcc => 0x4A
  | .lsrZpX _ => 0x56
  | .lsrAbsX _ => 0x5E
  | .nop => 0xEA
  | .oraImm _ => 0x09
  | .oraAbs _ => 0x0D
  | .oraZp _ => 0x05
  | .oraIndX _ => 0x01
  | .oraIndY _ => 0x11
  | .oraZpX _ => 0x15
  | .oraAbsX _ => 0x1D
  | .oraAbsY _ => 0x19
  | .pha => 0x48
  | .php => 0x08
  | .pla => 0x68
  | .plp => 0x28
  | .rolAbs _ => 0x2E
  | .rolZp _ => 0x26
  | .rolAcc => 0x2A
  | .rolZpX _ => 0x36
  | .rolAbsX _ => 0x3E
  | .rorAbs _ => 0x6E
  | .rorZp _ => 0x66
  | .rorAcc => 0x6A
  | .rorZpX _ => 0x76
  | .rorAbsX _ => 0x7E
  | .rti => 0x40
  | .rts => 0x60
  | .sbcImm _ => 0xE9
  | .sbcAbs _ => 0xED
  | .sbcZp _ => 0xE5
  | .sbcIndX _ => 0xE1
  | .sbcIndY _ => 0xF1
  | .sbcZpX _ => 0xF5
  | .sbcAbsX _ => 0xFD
  | .sbcAbsY _ => 0xF9
  | .sec => 0x38
  | .sed => 0xF8
  | .sei => 0x78
  | .staAbs _ => 0x8D
  | .staZp _ => 0x85
  | .staIndX _ => 0x81
  | .staIndY _ => 0x91
  | .staZpX _ => 0x95
  | .staAbsX _ => 0x9D
  | .staAbsY _ => 0x99
  | .stxAbs _ => 0x8E
  | .stxZp _ => 0x86
  | .stxZpY _ => 0x96
  | .styAbs _ => 0x8C
  | .styZp _ => 0x84
  | .styZpX _ => 0x94
  | .tax => 0xAA
  | .tay => 0xA8
  | .tsx => 0xBA
  | .txa => 0x8A
  | .txs => 0x9A
  | .tya => 0x98

/-- The operand bytes of each instruction, the low byte of an address first (R83, R56 (a)). -/
def operandBytes : Instr → List Byte
  | .adcImm m => [m]
  | .adcAbs w => [Machine.lo8 w, Machine.hi8 w]
  | .adcZp b => [b]
  | .adcIndX b => [b]
  | .adcIndY b => [b]
  | .adcZpX b => [b]
  | .adcAbsX w => [Machine.lo8 w, Machine.hi8 w]
  | .adcAbsY w => [Machine.lo8 w, Machine.hi8 w]
  | .andImm m => [m]
  | .andAbs w => [Machine.lo8 w, Machine.hi8 w]
  | .andZp b => [b]
  | .andIndX b => [b]
  | .andIndY b => [b]
  | .andZpX b => [b]
  | .andAbsX w => [Machine.lo8 w, Machine.hi8 w]
  | .andAbsY w => [Machine.lo8 w, Machine.hi8 w]
  | .aslAbs w => [Machine.lo8 w, Machine.hi8 w]
  | .aslZp b => [b]
  | .aslAcc => []
  | .aslZpX b => [b]
  | .aslAbsX w => [Machine.lo8 w, Machine.hi8 w]
  | .bcc off => [off]
  | .bcs off => [off]
  | .beq off => [off]
  | .bitAbs w => [Machine.lo8 w, Machine.hi8 w]
  | .bitZp b => [b]
  | .bmi off => [off]
  | .bne off => [off]
  | .bpl off => [off]
  | .brk => []
  | .bvc off => [off]
  | .bvs off => [off]
  | .clc => []
  | .cld => []
  | .cli => []
  | .clv => []
  | .cmpImm m => [m]
  | .cmpAbs w => [Machine.lo8 w, Machine.hi8 w]
  | .cmpZp b => [b]
  | .cmpIndX b => [b]
  | .cmpIndY b => [b]
  | .cmpZpX b => [b]
  | .cmpAbsX w => [Machine.lo8 w, Machine.hi8 w]
  | .cmpAbsY w => [Machine.lo8 w, Machine.hi8 w]
  | .cpxImm m => [m]
  | .cpxAbs w => [Machine.lo8 w, Machine.hi8 w]
  | .cpxZp b => [b]
  | .cpyImm m => [m]
  | .cpyAbs w => [Machine.lo8 w, Machine.hi8 w]
  | .cpyZp b => [b]
  | .decAbs w => [Machine.lo8 w, Machine.hi8 w]
  | .decZp b => [b]
  | .decZpX b => [b]
  | .decAbsX w => [Machine.lo8 w, Machine.hi8 w]
  | .dex => []
  | .dey => []
  | .eorImm m => [m]
  | .eorAbs w => [Machine.lo8 w, Machine.hi8 w]
  | .eorZp b => [b]
  | .eorIndX b => [b]
  | .eorIndY b => [b]
  | .eorZpX b => [b]
  | .eorAbsX w => [Machine.lo8 w, Machine.hi8 w]
  | .eorAbsY w => [Machine.lo8 w, Machine.hi8 w]
  | .incAbs w => [Machine.lo8 w, Machine.hi8 w]
  | .incZp b => [b]
  | .incZpX b => [b]
  | .incAbsX w => [Machine.lo8 w, Machine.hi8 w]
  | .inx => []
  | .iny => []
  | .jmpAbs w => [Machine.lo8 w, Machine.hi8 w]
  | .jmpInd w => [Machine.lo8 w, Machine.hi8 w]
  | .jsr w => [Machine.lo8 w, Machine.hi8 w]
  | .ldaImm m => [m]
  | .ldaAbs w => [Machine.lo8 w, Machine.hi8 w]
  | .ldaZp b => [b]
  | .ldaIndX b => [b]
  | .ldaIndY b => [b]
  | .ldaZpX b => [b]
  | .ldaAbsX w => [Machine.lo8 w, Machine.hi8 w]
  | .ldaAbsY w => [Machine.lo8 w, Machine.hi8 w]
  | .ldxImm m => [m]
  | .ldxAbs w => [Machine.lo8 w, Machine.hi8 w]
  | .ldxZp b => [b]
  | .ldxAbsY w => [Machine.lo8 w, Machine.hi8 w]
  | .ldxZpY b => [b]
  | .ldyImm m => [m]
  | .ldyAbs w => [Machine.lo8 w, Machine.hi8 w]
  | .ldyZp b => [b]
  | .ldyZpX b => [b]
  | .ldyAbsX w => [Machine.lo8 w, Machine.hi8 w]
  | .lsrAbs w => [Machine.lo8 w, Machine.hi8 w]
  | .lsrZp b => [b]
  | .lsrAcc => []
  | .lsrZpX b => [b]
  | .lsrAbsX w => [Machine.lo8 w, Machine.hi8 w]
  | .nop => []
  | .oraImm m => [m]
  | .oraAbs w => [Machine.lo8 w, Machine.hi8 w]
  | .oraZp b => [b]
  | .oraIndX b => [b]
  | .oraIndY b => [b]
  | .oraZpX b => [b]
  | .oraAbsX w => [Machine.lo8 w, Machine.hi8 w]
  | .oraAbsY w => [Machine.lo8 w, Machine.hi8 w]
  | .pha => []
  | .php => []
  | .pla => []
  | .plp => []
  | .rolAbs w => [Machine.lo8 w, Machine.hi8 w]
  | .rolZp b => [b]
  | .rolAcc => []
  | .rolZpX b => [b]
  | .rolAbsX w => [Machine.lo8 w, Machine.hi8 w]
  | .rorAbs w => [Machine.lo8 w, Machine.hi8 w]
  | .rorZp b => [b]
  | .rorAcc => []
  | .rorZpX b => [b]
  | .rorAbsX w => [Machine.lo8 w, Machine.hi8 w]
  | .rti => []
  | .rts => []
  | .sbcImm m => [m]
  | .sbcAbs w => [Machine.lo8 w, Machine.hi8 w]
  | .sbcZp b => [b]
  | .sbcIndX b => [b]
  | .sbcIndY b => [b]
  | .sbcZpX b => [b]
  | .sbcAbsX w => [Machine.lo8 w, Machine.hi8 w]
  | .sbcAbsY w => [Machine.lo8 w, Machine.hi8 w]
  | .sec => []
  | .sed => []
  | .sei => []
  | .staAbs w => [Machine.lo8 w, Machine.hi8 w]
  | .staZp b => [b]
  | .staIndX b => [b]
  | .staIndY b => [b]
  | .staZpX b => [b]
  | .staAbsX w => [Machine.lo8 w, Machine.hi8 w]
  | .staAbsY w => [Machine.lo8 w, Machine.hi8 w]
  | .stxAbs w => [Machine.lo8 w, Machine.hi8 w]
  | .stxZp b => [b]
  | .stxZpY b => [b]
  | .styAbs w => [Machine.lo8 w, Machine.hi8 w]
  | .styZp b => [b]
  | .styZpX b => [b]
  | .tax => []
  | .tay => []
  | .tsx => []
  | .txa => []
  | .txs => []
  | .tya => []

/-- The bytes of an instruction, the first at the lowest address (R83). -/
def encode (i : Instr) : List Byte := opcode i :: operandBytes i

/-- Byte number `k` of the `nbits` low bits of `w`, bit 0 the least significant bit of the first byte. -/
def tableByte (nbits w k : Nat) : Byte := BitVec.ofNat 8 (w % 2 ^ nbits / 2 ^ (8 * k))

/-- The three bytes that the `nbits` low bits of `w` stand for; bits above `nbits` are 0. -/
def tableBytes (nbits w : Nat) : List Byte := [tableByte nbits w 0, tableByte nbits w 1, tableByte nbits w 2]

/-- The instruction the decoder reads from an opcode-table word. -/
def decodeTableWord (nbits w : Nat) : Option Instr :=
  match decode (tableBytes nbits w) with
  | .ok (i, _) => some i
  | .error _ => none

end Sys2Proof
end

