-- ==== Sys2Proof/Machine/Fetch.lean ====
section
/-! DEFINITION. Fetching an instruction's bytes (30_encoding.md R81), and placing an instruction where the next step
fetches it. -/

namespace Sys2Proof.Machine

/-- What a fetch answers. -/
inductive FetchResult where
  /-- The first byte is no opcode of the table (R107). -/
  | undefinedOpcode (op : Byte)
  /-- RES fell before the opcode was read (R217), so that there is no instruction. -/
  | cutShort (s : State)
  /-- The instruction, and the state after the reads of its bytes; PC still holds the address of its first byte. -/
  | instr (i : Instr) (s : State)
deriving DecidableEq, Repr

/-- `n` bytes at rising addresses from `addr`, each read once (R81, R26), and the state after the reads. -/
def State.readBytes (s : State) (addr : Word) : Nat → List Byte × State
  | 0 => ([], s)
  | n + 1 =>
    let r := s.busRead addr
    let rest := State.readBytes r.st (addr + 1) n
    (r.val :: rest.1, rest.2)

/-- Fetch the instruction at PC (R81): the opcode first, then as many operand bytes as it asks for. -/
def State.fetch (s : State) : FetchResult :=
  let first := s.busRead s.pc
  if first.st.resPin = .low then .cutShort first.st
  else
    match opcodeLength first.val with
    | none => .undefinedOpcode first.val
    | some len =>
      let rest := first.st.readBytes (s.pc + 1) (len - 1)
      match decode (first.val :: rest.1) with
      | .ok (i, _) => .instr i rest.2
      | .error _ => .undefinedOpcode first.val

/-- Place bytes in memory from `addr` up, as a load from outside the machine does: with no bus cycle, read-only memory
included. -/
def State.placeBytes (s : State) (addr : Word) : List Byte → State
  | [] => s
  | b :: rest => State.placeBytes (s.setMem (Memory.write s.mem (s.busAddr addr) b)) (addr + 1) rest

/-- The state in which the very next step fetches and runs the instruction whose first `nbits` bits are `w` (log 13): the
bytes are placed at PC, those bus addresses are plain memory, the environment asserts nothing and holds no read, and
no device requests an interrupt. -/
def State.withNextInstruction (s : State) (nbits w : Nat) : State :=
  let t := s.placeBytes s.pc (tableBytes nbits w)
  let fetched := [s.busAddr s.pc, s.busAddr (s.pc + 1), s.busAddr (s.pc + 2)]
  let inRegion := fetched.filter (fun k => (Machine.regionAt s.cfg.map s.plat.state k).isSome)
  { t with
    nmiPending := false
    inputs := []
    halts := []
    cfg :=
      { t.cfg with
        map := inRegion.map (fun k => { base := k, size := 1, kind := .ram }) ++ t.cfg.map
        requests := t.cfg.requests.filter (fun r => r != s.plat.state) } }

end Sys2Proof.Machine
end

