-- ==== Sys2Proof/Machine/Step.lean ====
section
/-! DEFINITION. One step of the machine (60_exceptions.md R204). -/

namespace Sys2Proof.Machine

/-- What a boundary starts (R204): poll the inputs; if no event runs, fetch the instruction at PC and execute it. An undefined
opcode is the model's one fault (R107). -/
def State.run (s : State) : Result :=
  match s.poll with
  | .event t => .next t
  | .execute t =>
    match t.fetch with
    | .undefinedOpcode op => .fault (.undefinedOpcode op)
    | .cutShort u => .next u
    | .instr i u => exec i u

/-- One step, from one instruction boundary to the next (R204): what the boundary starts, then the resets that cut it short, if
RES fell meanwhile (R217), and the devices' time (R370). -/
def step (s : State) : Host.Outcome State Fault Refusal :=
  match s.run with
  | .next t => .next (t.endStep s)
  | .fault f => .fault f
  | .refused r => .refused r

/-- The state with an instruction stored where the next step fetches it. -/
def State.withFetchWord (s : State) (nbits w : Nat) : State := s.withNextInstruction nbits w

end Sys2Proof.Machine
end

