-- ==== Sys2Proof/Safety.lean ====
section
/-! DEFINITION. The terms claims use: the machine's invariant, a safe run, the end of a run. -/

namespace Sys2Proof.Machine

/-- The invariant of every step: memory has its canonical form, and every cell lies at a location the platform has, a
bus address of the part (20_memory.md R52) or one that the map names. -/
abbrev State.Inv (s : State) : Prop :=
  Memory.wf s.mem ∧ ∀ c ∈ s.mem, platformHas s.cfg c.1 = true

/-- The environment does nothing: no input is scheduled, no halt, and no device requests an interrupt or moves with the
clock. -/
abbrev State.quiet (s : State) : Prop :=
  s.inputs = [] ∧ s.halts = [] ∧ s.resPin = .high ∧ s.plat.state ∉ s.cfg.requests ∧
    ∀ r ∈ s.cfg.clocks, r.next = r.state

/-- Nothing holds the processor's accesses back: RES is high (60_exceptions.md R217), and no RDY halt is due, since the part
has no RDY pin or no halt is scheduled (20_memory.md R66). -/
abbrev State.notHeld (s : State) : Prop := s.resPin = .high ∧ (hasRdy s.cfg.part = false ∨ s.halts = [])

/-- No other bus master acts: the part has no RDY pin, or no scheduled halt carries an act (20_memory.md R66 (b)). The
processor may still be held. -/
abbrev State.noDma (s : State) : Prop := hasRdy s.cfg.part = false ∨ ∀ h ∈ s.halts, h.acts = []

/-- Devices answer, but no access to one changes memory or the state of the platform, and none moves by itself
during an instruction (20_memory.md R55, R65). -/
abbrev State.devicesPassive (s : State) : Prop :=
  (∀ r ∈ s.cfg.devices, r.next = r.state ∧ r.pokes = []) ∧ ∀ m ∈ s.plat.moves, m = none

/-- Nothing but the processor's own writes changes memory or what answers where. -/
abbrev State.undisturbed (s : State) : Prop := s.noDma ∧ s.devicesPassive

/-- No step of the next `k` stops: no run reaches an undefined opcode (30_encoding.md R107: "a program is only verified
if it never reaches one"). -/
def State.safeFor (s : State) : Nat → Bool
  | 0 => true
  | k + 1 =>
    match step s with
    | .next t => State.safeFor t k
    | .fault _ => false
    | .refused _ => false

/-- A jump or a taken branch to itself (R230, D11): the instruction at PC is JMP absolute or a branch, and running it
leaves PC where it was. -/
def selfJump (i : Instr) (s : State) : Bool :=
  (opcode i == opcode (.jmpAbs 0) || instrMode i == .relative) &&
  match exec i s with
  | .next t => t.pc == s.pc
  | .fault _ => false
  | .refused _ => false

/-- `END_OF_RUN` (R230, D11): no event is due, no reset falls in the step, and the next instruction jumps or branches to itself. -/
def State.endOfRun (s : State) : Bool :=
  s.currentInputs.cuts.isEmpty &&
  match s.poll with
  | .event _ => false
  | .execute t =>
    match t.fetch with
    | .undefinedOpcode _ => false
    | .cutShort _ => false
    | .instr i u => selfJump i u

end Sys2Proof.Machine
end

