-- ==== Sys2Proof/Certificates/Slice0/Obligations.lean ====
section
/-! DEFINITION. The statements for the provers, and the vocabulary they are written in: plain arithmetic on numbers, and
rows of the opcode table. -/

namespace Sys2Proof.Claims

open Sys2Proof.Machine

/-! ## Arithmetic, as the rules write it -/

/-- `{hi, lo}` (R11). -/
def word (hi lo : Byte) : Word := BitVec.ofNat 16 (hi.toNat * 256 + lo.toNat)

/-- The high byte of a word (R11). -/
def high (w : Word) : Byte := BitVec.ofNat 8 (w.toNat / 256)

/-- The low byte of a word (R11). -/
def low (w : Word) : Byte := BitVec.ofNat 8 (w.toNat % 256)

/-- Bit 7 of a byte. -/
def top (v : Byte) : Bool := decide (128 ≤ v.toNat)

/-- Bit `k` of a byte, by division. -/
def digit (v : Byte) (k : Nat) : Bool := decide (v.toNat / 2 ^ k % 2 = 1)

/-- `setNZ(v)` (R33). -/
def nz (p : Flags) (v : Byte) : Flags := { p with n := top v, z := decide (v.toNat = 0) }

/-- `Pimage(b)` (R38). -/
def statusByte (p : Flags) (b : Bool) : Byte :=
  BitVec.ofNat 8 (p.n.toNat * 128 + p.v.toNat * 64 + 32 + b.toNat * 16 + p.d.toNat * 8 + p.i.toNat * 4 + p.z.toNat * 2
    + p.c.toNat)

/-- `setP(v)` (R38). -/
def statusFlags (v : Byte) : Flags :=
  { n := digit v 7, v := digit v 6, d := digit v 3, i := digit v 2, z := digit v 1, c := digit v 0 }

/-- The address in the stack page that a value of S stands for (R27). -/
def stack (sp : Byte) : Word := BitVec.ofNat 16 (256 + sp.toNat)

/-! ## Instructions -/

/-- The state in which an instruction of `len` bytes and `n` base cycles has its effect: PC has moved past its bytes (R82),
its base cycles are counted (R255), and no mask is held from an earlier CLI, SEI or PLP (R208). -/
def started (s : State) (len n : Nat) : State :=
  { s with pc := BitVec.ofNat 16 (s.pc.toNat + len), cycles := s.cycles + n, priorMask := none }

/-- An instruction that reads an operand: what its mode makes of its operand bytes, and its opcode, bytes and base
cycles (R100). -/
structure ReadRow where
  instr   : Instr
  operand : Operand
  op      : Byte
  len     : Nat
  n       : Nat

/-- An instruction that stores to its effective address (R100). -/
structure MemoryRow where
  instr : Instr
  addr  : Address
  op    : Byte
  len   : Nat
  n     : Nat

/-- The instruction has the opcode and the length of its row. -/
abbrev encodedAs (i : Instr) (op : Byte) (len : Nat) : Prop := opcode i = op ∧ instrLength i = len

/-- The operand of a reading instruction, read in the state the rule says. -/
def fetched (s : State) (f : ReadRow) : Fetched := (started s f.len f.n).operand f.operand

/-- The operand byte `M`. -/
def operandOf (s : State) (f : ReadRow) : Byte := (fetched s f).val

/-- The state after the operand has been read, with note (1)'s cycle when a page was crossed (R256). -/
def afterRead (s : State) (f : ReadRow) : State :=
  { (fetched s f).st with cycles := (fetched s f).st.cycles + (if (fetched s f).crossed then 1 else 0) }

/-- The effective address of a storing instruction, formed in the state the rule says. -/
def located (s : State) (f : MemoryRow) : Located := (started s f.len f.n).locate f.addr

/-- The byte a read-modify-write instruction reads, and the state after the read. -/
def oldByte (s : State) (f : MemoryRow) : BusByte := (located s f).st.busRead (located s f).ea

/-- A read-modify-write instruction has read its byte; another bus master may act in a halt (R64, log 26); then it writes `v`
to the same address and leaves the flags `p`. -/
def written (s : State) (f : MemoryRow) (v : Byte) (p : Flags) : State :=
  { (oldByte s f).st.takeHalt.busWrite (located s f).ea v with p := p }

/-- The same instruction `k` times over. -/
def execTimes (i : Instr) : Nat → State → Result
  | 0, s => .next s
  | k + 1, s =>
    match exec i s with
    | .next t => execTimes i k t
    | .fault f => .fault f
    | .refused r => .refused r

/-- `k` steps of the machine. -/
def stepTimes : Nat → State → Result
  | 0, s => .next s
  | k + 1, s =>
    match step s with
    | .next t => stepTimes k t
    | .fault f => .fault f
    | .refused r => .refused r

/-- The rows of LDA in the opcode table. -/
def ldaRows (m : Byte) (b : Byte) (w : Word) : List ReadRow :=
  [⟨.ldaImm m, .imm m, 0xA9, 2, 2⟩,
   ⟨.ldaAbs w, .mem (.abs w), 0xAD, 3, 4⟩,
   ⟨.ldaZp b, .mem (.zp b), 0xA5, 2, 3⟩,
   ⟨.ldaIndX b, .mem (.indX b), 0xA1, 2, 6⟩,
   ⟨.ldaIndY b, .mem (.indY b), 0xB1, 2, 5⟩,
   ⟨.ldaZpX b, .mem (.zpX b), 0xB5, 2, 4⟩,
   ⟨.ldaAbsX w, .mem (.absX w), 0xBD, 3, 4⟩,
   ⟨.ldaAbsY w, .mem (.absY w), 0xB9, 3, 4⟩]

/-- The rows of LDX in the opcode table. -/
def ldxRows (m : Byte) (b : Byte) (w : Word) : List ReadRow :=
  [⟨.ldxImm m, .imm m, 0xA2, 2, 2⟩,
   ⟨.ldxAbs w, .mem (.abs w), 0xAE, 3, 4⟩,
   ⟨.ldxZp b, .mem (.zp b), 0xA6, 2, 3⟩,
   ⟨.ldxAbsY w, .mem (.absY w), 0xBE, 3, 4⟩,
   ⟨.ldxZpY b, .mem (.zpY b), 0xB6, 2, 4⟩]

/-- The rows of LDY in the opcode table. -/
def ldyRows (m : Byte) (b : Byte) (w : Word) : List ReadRow :=
  [⟨.ldyImm m, .imm m, 0xA0, 2, 2⟩,
   ⟨.ldyAbs w, .mem (.abs w), 0xAC, 3, 4⟩,
   ⟨.ldyZp b, .mem (.zp b), 0xA4, 2, 3⟩,
   ⟨.ldyZpX b, .mem (.zpX b), 0xB4, 2, 4⟩,
   ⟨.ldyAbsX w, .mem (.absX w), 0xBC, 3, 4⟩]

/-- The rows of ADC in the opcode table. -/
def adcRows (m : Byte) (b : Byte) (w : Word) : List ReadRow :=
  [⟨.adcImm m, .imm m, 0x69, 2, 2⟩,
   ⟨.adcAbs w, .mem (.abs w), 0x6D, 3, 4⟩,
   ⟨.adcZp b, .mem (.zp b), 0x65, 2, 3⟩,
   ⟨.adcIndX b, .mem (.indX b), 0x61, 2, 6⟩,
   ⟨.adcIndY b, .mem (.indY b), 0x71, 2, 5⟩,
   ⟨.adcZpX b, .mem (.zpX b), 0x75, 2, 4⟩,
   ⟨.adcAbsX w, .mem (.absX w), 0x7D, 3, 4⟩,
   ⟨.adcAbsY w, .mem (.absY w), 0x79, 3, 4⟩]

/-- The rows of SBC in the opcode table. -/
def sbcRows (m : Byte) (b : Byte) (w : Word) : List ReadRow :=
  [⟨.sbcImm m, .imm m, 0xE9, 2, 2⟩,
   ⟨.sbcAbs w, .mem (.abs w), 0xED, 3, 4⟩,
   ⟨.sbcZp b, .mem (.zp b), 0xE5, 2, 3⟩,
   ⟨.sbcIndX b, .mem (.indX b), 0xE1, 2, 6⟩,
   ⟨.sbcIndY b, .mem (.indY b), 0xF1, 2, 5⟩,
   ⟨.sbcZpX b, .mem (.zpX b), 0xF5, 2, 4⟩,
   ⟨.sbcAbsX w, .mem (.absX w), 0xFD, 3, 4⟩,
   ⟨.sbcAbsY w, .mem (.absY w), 0xF9, 3, 4⟩]

/-- The rows of AND in the opcode table. -/
def andRows (m : Byte) (b : Byte) (w : Word) : List ReadRow :=
  [⟨.andImm m, .imm m, 0x29, 2, 2⟩,
   ⟨.andAbs w, .mem (.abs w), 0x2D, 3, 4⟩,
   ⟨.andZp b, .mem (.zp b), 0x25, 2, 3⟩,
   ⟨.andIndX b, .mem (.indX b), 0x21, 2, 6⟩,
   ⟨.andIndY b, .mem (.indY b), 0x31, 2, 5⟩,
   ⟨.andZpX b, .mem (.zpX b), 0x35, 2, 4⟩,
   ⟨.andAbsX w, .mem (.absX w), 0x3D, 3, 4⟩,
   ⟨.andAbsY w, .mem (.absY w), 0x39, 3, 4⟩]

/-- The rows of ORA in the opcode table. -/
def oraRows (m : Byte) (b : Byte) (w : Word) : List ReadRow :=
  [⟨.oraImm m, .imm m, 0x09, 2, 2⟩,
   ⟨.oraAbs w, .mem (.abs w), 0x0D, 3, 4⟩,
   ⟨.oraZp b, .mem (.zp b), 0x05, 2, 3⟩,
   ⟨.oraIndX b, .mem (.indX b), 0x01, 2, 6⟩,
   ⟨.oraIndY b, .mem (.indY b), 0x11, 2, 5⟩,
   ⟨.oraZpX b, .mem (.zpX b), 0x15, 2, 4⟩,
   ⟨.oraAbsX w, .mem (.absX w), 0x1D, 3, 4⟩,
   ⟨.oraAbsY w, .mem (.absY w), 0x19, 3, 4⟩]

/-- The rows of EOR in the opcode table. -/
def eorRows (m : Byte) (b : Byte) (w : Word) : List ReadRow :=
  [⟨.eorImm m, .imm m, 0x49, 2, 2⟩,
   ⟨.eorAbs w, .mem (.abs w), 0x4D, 3, 4⟩,
   ⟨.eorZp b, .mem (.zp b), 0x45, 2, 3⟩,
   ⟨.eorIndX b, .mem (.indX b), 0x41, 2, 6⟩,
   ⟨.eorIndY b, .mem (.indY b), 0x51, 2, 5⟩,
   ⟨.eorZpX b, .mem (.zpX b), 0x55, 2, 4⟩,
   ⟨.eorAbsX w, .mem (.absX w), 0x5D, 3, 4⟩,
   ⟨.eorAbsY w, .mem (.absY w), 0x59, 3, 4⟩]

/-- The rows of CMP in the opcode table. -/
def cmpRows (m : Byte) (b : Byte) (w : Word) : List ReadRow :=
  [⟨.cmpImm m, .imm m, 0xC9, 2, 2⟩,
   ⟨.cmpAbs w, .mem (.abs w), 0xCD, 3, 4⟩,
   ⟨.cmpZp b, .mem (.zp b), 0xC5, 2, 3⟩,
   ⟨.cmpIndX b, .mem (.indX b), 0xC1, 2, 6⟩,
   ⟨.cmpIndY b, .mem (.indY b), 0xD1, 2, 5⟩,
   ⟨.cmpZpX b, .mem (.zpX b), 0xD5, 2, 4⟩,
   ⟨.cmpAbsX w, .mem (.absX w), 0xDD, 3, 4⟩,
   ⟨.cmpAbsY w, .mem (.absY w), 0xD9, 3, 4⟩]

/-- The rows of CPX in the opcode table. -/
def cpxRows (m : Byte) (b : Byte) (w : Word) : List ReadRow :=
  [⟨.cpxImm m, .imm m, 0xE0, 2, 2⟩,
   ⟨.cpxAbs w, .mem (.abs w), 0xEC, 3, 4⟩,
   ⟨.cpxZp b, .mem (.zp b), 0xE4, 2, 3⟩]

/-- The rows of CPY in the opcode table. -/
def cpyRows (m : Byte) (b : Byte) (w : Word) : List ReadRow :=
  [⟨.cpyImm m, .imm m, 0xC0, 2, 2⟩,
   ⟨.cpyAbs w, .mem (.abs w), 0xCC, 3, 4⟩,
   ⟨.cpyZp b, .mem (.zp b), 0xC4, 2, 3⟩]

/-- The rows of BIT in the opcode table. -/
def bitRows (b : Byte) (w : Word) : List ReadRow :=
  [⟨.bitAbs w, .mem (.abs w), 0x2C, 3, 4⟩,
   ⟨.bitZp b, .mem (.zp b), 0x24, 2, 3⟩]

/-- The rows of STA that address memory. -/
def staRows (b : Byte) (w : Word) : List MemoryRow :=
  [⟨.staAbs w, .abs w, 0x8D, 3, 4⟩,
   ⟨.staZp b, .zp b, 0x85, 2, 3⟩,
   ⟨.staIndX b, .indX b, 0x81, 2, 6⟩,
   ⟨.staIndY b, .indY b, 0x91, 2, 6⟩,
   ⟨.staZpX b, .zpX b, 0x95, 2, 4⟩,
   ⟨.staAbsX w, .absX w, 0x9D, 3, 5⟩,
   ⟨.staAbsY w, .absY w, 0x99, 3, 5⟩]

/-- The rows of STX that address memory. -/
def stxRows (b : Byte) (w : Word) : List MemoryRow :=
  [⟨.stxAbs w, .abs w, 0x8E, 3, 4⟩,
   ⟨.stxZp b, .zp b, 0x86, 2, 3⟩,
   ⟨.stxZpY b, .zpY b, 0x96, 2, 4⟩]

/-- The rows of STY that address memory. -/
def styRows (b : Byte) (w : Word) : List MemoryRow :=
  [⟨.styAbs w, .abs w, 0x8C, 3, 4⟩,
   ⟨.styZp b, .zp b, 0x84, 2, 3⟩,
   ⟨.styZpX b, .zpX b, 0x94, 2, 4⟩]

/-- The rows of INC that address memory. -/
def incRows (b : Byte) (w : Word) : List MemoryRow :=
  [⟨.incAbs w, .abs w, 0xEE, 3, 6⟩,
   ⟨.incZp b, .zp b, 0xE6, 2, 5⟩,
   ⟨.incZpX b, .zpX b, 0xF6, 2, 6⟩,
   ⟨.incAbsX w, .absX w, 0xFE, 3, 7⟩]

/-- The rows of DEC that address memory. -/
def decRows (b : Byte) (w : Word) : List MemoryRow :=
  [⟨.decAbs w, .abs w, 0xCE, 3, 6⟩,
   ⟨.decZp b, .zp b, 0xC6, 2, 5⟩,
   ⟨.decZpX b, .zpX b, 0xD6, 2, 6⟩,
   ⟨.decAbsX w, .absX w, 0xDE, 3, 7⟩]

/-- The rows of ASL that address memory. -/
def aslRows (b : Byte) (w : Word) : List MemoryRow :=
  [⟨.aslAbs w, .abs w, 0x0E, 3, 6⟩,
   ⟨.aslZp b, .zp b, 0x06, 2, 5⟩,
   ⟨.aslZpX b, .zpX b, 0x16, 2, 6⟩,
   ⟨.aslAbsX w, .absX w, 0x1E, 3, 7⟩]

/-- The rows of LSR that address memory. -/
def lsrRows (b : Byte) (w : Word) : List MemoryRow :=
  [⟨.lsrAbs w, .abs w, 0x4E, 3, 6⟩,
   ⟨.lsrZp b, .zp b, 0x46, 2, 5⟩,
   ⟨.lsrZpX b, .zpX b, 0x56, 2, 6⟩,
   ⟨.lsrAbsX w, .absX w, 0x5E, 3, 7⟩]

/-- The rows of ROL that address memory. -/
def rolRows (b : Byte) (w : Word) : List MemoryRow :=
  [⟨.rolAbs w, .abs w, 0x2E, 3, 6⟩,
   ⟨.rolZp b, .zp b, 0x26, 2, 5⟩,
   ⟨.rolZpX b, .zpX b, 0x36, 2, 6⟩,
   ⟨.rolAbsX w, .absX w, 0x3E, 3, 7⟩]

/-- The rows of ROR that address memory. -/
def rorRows (b : Byte) (w : Word) : List MemoryRow :=
  [⟨.rorAbs w, .abs w, 0x6E, 3, 6⟩,
   ⟨.rorZp b, .zp b, 0x66, 2, 5⟩,
   ⟨.rorZpX b, .zpX b, 0x76, 2, 6⟩,
   ⟨.rorAbsX w, .absX w, 0x7E, 3, 7⟩]

/-- The 151 opcodes of the table's grid (R100). -/
def definedOpcodes : List Nat :=
  [0x00, 0x01, 0x05, 0x06, 0x08, 0x09, 0x0A, 0x0D, 0x0E, 0x10, 0x11, 0x15, 0x16, 0x18, 0x19, 0x1D,
   0x1E, 0x20, 0x21, 0x24, 0x25, 0x26, 0x28, 0x29, 0x2A, 0x2C, 0x2D, 0x2E, 0x30, 0x31, 0x35, 0x36,
   0x38, 0x39, 0x3D, 0x3E, 0x40, 0x41, 0x45, 0x46, 0x48, 0x49, 0x4A, 0x4C, 0x4D, 0x4E, 0x50, 0x51,
   0x55, 0x56, 0x58, 0x59, 0x5D, 0x5E, 0x60, 0x61, 0x65, 0x66, 0x68, 0x69, 0x6A, 0x6C, 0x6D, 0x6E,
   0x70, 0x71, 0x75, 0x76, 0x78, 0x79, 0x7D, 0x7E, 0x81, 0x84, 0x85, 0x86, 0x88, 0x8A, 0x8C, 0x8D,
   0x8E, 0x90, 0x91, 0x94, 0x95, 0x96, 0x98, 0x99, 0x9A, 0x9D, 0xA0, 0xA1, 0xA2, 0xA4, 0xA5, 0xA6,
   0xA8, 0xA9, 0xAA, 0xAC, 0xAD, 0xAE, 0xB0, 0xB1, 0xB4, 0xB5, 0xB6, 0xB8, 0xB9, 0xBA, 0xBC, 0xBD,
   0xBE, 0xC0, 0xC1, 0xC4, 0xC5, 0xC6, 0xC8, 0xC9, 0xCA, 0xCC, 0xCD, 0xCE, 0xD0, 0xD1, 0xD5, 0xD6,
   0xD8, 0xD9, 0xDD, 0xDE, 0xE0, 0xE1, 0xE4, 0xE5, 0xE6, 0xE8, 0xE9, 0xEA, 0xEC, 0xED, 0xEE, 0xF0,
   0xF1, 0xF5, 0xF6, 0xF8, 0xF9, 0xFD, 0xFE]

/-- How many address pins a part has, as the members table gives them (R3). -/
def pinsOf (part : Part) : Nat :=
  if part ∈ [Part.sy6502, Part.sy6512] then 16 else if part ∈ [Part.sy6504, Part.sy6507, Part.sy6514] then 13 else 12

/-- The parts with an NMI pin (R3). -/
def nmiParts : List Part := [.sy6502, .sy6503, .sy6512, .sy6513]

/-- The parts with a RDY pin (R3, 90_conflicts.md C5). -/
def rdyParts : List Part := [.sy6502, .sy6505, .sy6507, .sy6512, .sy6515]

/-- The parts with an S.O. pin (R3). -/
def soParts : List Part := [.sy6502, .sy6512]

/-- What a part sees of the inputs at a boundary: a pin it does not have is never asserted (R8). -/
def seenBy (part : Part) (inp : BoundaryInputs) : BoundaryInputs :=
  { inp with
    nmiEdge := inp.nmiEdge && decide (part ∈ nmiParts)
    irqLow := inp.irqLow && decide (part ≠ .sy6507)
    soEdge := inp.soEdge && decide (part ∈ soParts) }

/-- The inputs of the boundary at which the machine stands: nothing when the schedule is empty. -/
def due (s : State) : BoundaryInputs :=
  match s.inputs with
  | [] => {}
  | inp :: _ => inp

/-- RES during the instruction or sequence that begins: it falls as the first of these resets says, if there is one (R217,
log 21). -/
def resDuring : List ResetCut → ResPin
  | [] => .high
  | cut :: _ => .fallsAfter cut.after

/-- The state of a boundary whose inputs have been taken up (R204): the platform's devices may have moved by themselves, and
RES may be about to fall during the step (R217, log 21). -/
def arrived (s : State) : State :=
  { s with
    inputs := s.inputs.tail
    plat := { s.plat with state := (due s).devices.getD s.plat.state }
    resPin := resDuring (due s).cuts }

/-- The state of a boundary without reset, after the edges have been sampled and before NMI and IRQ are looked at (R204). -/
def sampled (s : State) : State :=
  { arrived s with
    p := { s.p with v := s.p.v || (decide (s.cfg.part ∈ soParts) && (due s).soEdge) }
    nmiPending := s.nmiPending || (decide (s.cfg.part ∈ nmiParts) && (due s).nmiEdge) }

/-- An IRQ is taken at this boundary unless a reset or an NMI is (R204): the line is low, held by a device of the platform
(R370) or by something else, and not masked. -/
def irqTaken (s : State) : Bool :=
  decide (s.cfg.part ≠ .sy6507) && ((due s).irqLow || decide ((arrived s).plat.state ∈ s.cfg.requests)) && !s.maskSeen

/-- Each RES that falls leads to the reset sequence, from the state that the accesses before it left, in which RES may fall
again (R217, R240). What was under way began when the cycle counter stood at `start`. -/
def restarted (start : Nat) : List ResetCut → State → State
  | [], t => t
  | cut :: rest, t =>
    let risen : State := { t with
      cycles := start + cut.cycles, resPin := resDuring rest
      plat := { t.plat with state := cut.devices.getD t.plat.state } }
    restarted (start + cut.cycles) rest (risen.resetSequence cut.draw)

/-- What a step from `s` ends in, from the outcome of what its boundary started: a RES that fell meanwhile leads to the reset
sequence (R217, R240); and the devices' counters advance by the cycles
that have passed (R370, log 27). -/
def ended (s : State) (r : Result) : Result :=
  match r with
  | .next t =>
    let u := restarted s.cycles (due s).cuts t
    .next { u with
      plat := { u.plat with state := clockDevices u.cfg.clocks (u.cycles - s.cycles) u.plat.state }, resPin := .high }
  | .fault f => .fault f
  | .refused r => .refused r

/-- Nothing is asserted at this boundary that leads to a reset or an interrupt, and RES does not fall during the step. -/
abbrev noEvent (s : State) : Prop :=
  (due s).res = none ∧ (due s).cuts = [] ∧ (sampled s).nmiPending = false ∧ irqTaken s = false

/-- The bytes of an instruction stand in plain memory at PC. -/
abbrev holdsInstruction (s : State) (i : Instr) : Prop :=
  ∀ q ∈ (encode i).zipIdx,
    (s.kindAt (s.pc + BitVec.ofNat 16 q.2)).plain = true ∧ s.peek (s.pc + BitVec.ofNat 16 q.2) = q.1

/-- The bytes that bus writes of an instruction store to, by the functions its meaning uses (R48, R63). -/
def storedAt (i : Instr) (s : State) : List Word :=
  match i with
  | .aslAbs w => [((s.advance 3 6).locate (.abs w)).ea]
  | .aslZp b => [((s.advance 2 5).locate (.zp b)).ea]
  | .aslZpX b => [((s.advance 2 6).locate (.zpX b)).ea]
  | .aslAbsX w => [((s.advance 3 7).locate (.absX w)).ea]
  | .decAbs w => [((s.advance 3 6).locate (.abs w)).ea]
  | .decZp b => [((s.advance 2 5).locate (.zp b)).ea]
  | .decZpX b => [((s.advance 2 6).locate (.zpX b)).ea]
  | .decAbsX w => [((s.advance 3 7).locate (.absX w)).ea]
  | .incAbs w => [((s.advance 3 6).locate (.abs w)).ea]
  | .incZp b => [((s.advance 2 5).locate (.zp b)).ea]
  | .incZpX b => [((s.advance 2 6).locate (.zpX b)).ea]
  | .incAbsX w => [((s.advance 3 7).locate (.absX w)).ea]
  | .lsrAbs w => [((s.advance 3 6).locate (.abs w)).ea]
  | .lsrZp b => [((s.advance 2 5).locate (.zp b)).ea]
  | .lsrZpX b => [((s.advance 2 6).locate (.zpX b)).ea]
  | .lsrAbsX w => [((s.advance 3 7).locate (.absX w)).ea]
  | .rolAbs w => [((s.advance 3 6).locate (.abs w)).ea]
  | .rolZp b => [((s.advance 2 5).locate (.zp b)).ea]
  | .rolZpX b => [((s.advance 2 6).locate (.zpX b)).ea]
  | .rolAbsX w => [((s.advance 3 7).locate (.absX w)).ea]
  | .rorAbs w => [((s.advance 3 6).locate (.abs w)).ea]
  | .rorZp b => [((s.advance 2 5).locate (.zp b)).ea]
  | .rorZpX b => [((s.advance 2 6).locate (.zpX b)).ea]
  | .rorAbsX w => [((s.advance 3 7).locate (.absX w)).ea]
  | .staAbs w => [((s.advance 3 4).locate (.abs w)).ea]
  | .staZp b => [((s.advance 2 3).locate (.zp b)).ea]
  | .staIndX b => [((s.advance 2 6).locate (.indX b)).ea]
  | .staIndY b => [((s.advance 2 6).locate (.indY b)).ea]
  | .staZpX b => [((s.advance 2 4).locate (.zpX b)).ea]
  | .staAbsX w => [((s.advance 3 5).locate (.absX w)).ea]
  | .staAbsY w => [((s.advance 3 5).locate (.absY w)).ea]
  | .stxAbs w => [((s.advance 3 4).locate (.abs w)).ea]
  | .stxZp b => [((s.advance 2 3).locate (.zp b)).ea]
  | .stxZpY b => [((s.advance 2 4).locate (.zpY b)).ea]
  | .styAbs w => [((s.advance 3 4).locate (.abs w)).ea]
  | .styZp b => [((s.advance 2 3).locate (.zp b)).ea]
  | .styZpX b => [((s.advance 2 4).locate (.zpX b)).ea]
  | .pha => [stackAddr s.sp]
  | .php => [stackAddr s.sp]
  | .jsr _ => [stackAddr s.sp, stackAddr (s.sp - 1)]
  | .brk => [stackAddr s.sp, stackAddr (s.sp - 1), stackAddr (s.sp - 2)]
  | _ => []

/-- D replaced (R32). -/
def withD (s : State) (d : Bool) : State := { s with p := { s.p with d := d } }

/-- The decimal value of a byte (R133). -/
def decimal (v : Byte) : Nat := 10 * (v.toNat / 16) + v.toNat % 16

/-- Both nibbles are 0 to 9 (R133). -/
abbrev isBcd (v : Byte) : Prop := v.toNat / 16 ≤ 9 ∧ v.toNat % 16 ≤ 9

/-- `bcd(n)` (R133). -/
def bcdByte (n : Nat) : Byte := BitVec.ofNat 8 (16 * (n / 10) + n % 10)

/-- The three stack bytes an interrupt sequence writes lie in RAM, at three locations (R205). -/
abbrev frameInRam (s : State) : Prop :=
  s.kindAt (stack s.sp) = .ram ∧ s.kindAt (stack (s.sp - 1)) = .ram ∧ s.kindAt (stack (s.sp - 2)) = .ram ∧
  s.cellAt (stack s.sp) ≠ s.cellAt (stack (s.sp - 1)) ∧ s.cellAt (stack s.sp) ≠ s.cellAt (stack (s.sp - 2)) ∧
  s.cellAt (stack (s.sp - 1)) ≠ s.cellAt (stack (s.sp - 2))

/-- Both bytes of a vector lie in plain memory (R58). -/
abbrev vectorInMemory (s : State) (vector : Word) : Prop :=
  (s.kindAt vector).plain = true ∧ (s.kindAt (vector + 1)).plain = true

/-- What an entry of `MEMORY_MAP` leaves (R55): the bytes it changes, oldest first, where the platform has them, and the state
of the devices. -/
def ruled (s : State) (r : DeviceRule) : State :=
  { s with
    mem := r.pokes.foldl (fun m q => if platformHas s.cfg q.cell then Memory.write m q.cell q.val else m) s.mem
    plat := { s.plat with state := r.next } }

/-- The eight branches: instruction, opcode, and the condition on the flags (R161 to R168). -/
def branchRows (off : Byte) (p : Flags) : List (Instr × Byte × Bool) :=
  [(.bcc off, 0x90, !p.c), (.bcs off, 0xB0, p.c), (.beq off, 0xF0, p.z), (.bmi off, 0x30, p.n),
   (.bne off, 0xD0, !p.z), (.bpl off, 0x10, !p.n), (.bvc off, 0x50, !p.v), (.bvs off, 0x70, p.v)]

/-- Which instructions write A (R48). -/
def writesA (i : Instr) : Bool :=
  decide (i.mnemonic ∈ [.adc, .sbc, .and, .ora, .eor, .lda, .txa, .tya, .pla])
    || decide (i ∈ [Instr.aslAcc, .lsrAcc, .rolAcc, .rorAcc])

/-- Which instructions write N and Z (R48). -/
def writesNZ (i : Instr) : Bool :=
  decide (i.mnemonic ∈ [.adc, .sbc, .and, .ora, .eor, .asl, .lsr, .rol, .ror, .bit, .cmp, .cpx, .cpy, .inc, .dec, .inx,
    .dex, .iny, .dey, .lda, .ldx, .ldy, .tax, .tsx, .tay, .txa, .tya, .pla, .plp, .rti])

/-- Which instructions write C (R48). -/
def writesC (i : Instr) : Bool :=
  decide (i.mnemonic ∈ [.adc, .sbc, .asl, .lsr, .rol, .ror, .cmp, .cpx, .cpy, .clc, .sec, .plp, .rti])

/-- Which instructions transfer control (R48). -/
def transfers (i : Instr) : Bool :=
  decide (i.mnemonic ∈ [.bcc, .bcs, .beq, .bmi, .bne, .bpl, .bvc, .bvs, .jmp, .jsr, .rts, .brk, .rti])

end Sys2Proof.Claims

section

open Sys2Proof Sys2Proof.Machine Sys2Proof.Claims

/-! ## Encoding -/

/-- Decoding an encoded well-formed instruction gives it back, with the bytes after it left over, and the encoding has
the length of the instruction's mode (R100, R104, R105). -/
def Obligations.DecodeOfEncode : Prop :=
  ∀ (i : Instr) (rest : List Byte), i.wellFormed = true →
    decode (encode i ++ rest) = .ok (i, rest) ∧ (encode i).length = instrLength i ∧ imageWellFormed (encode i) = true

/-- Whatever decodes is the encoding of the instruction it decodes to: no bit of the bytes read is ignored (R83, R104). -/
def Obligations.EncodeOfDecode : Prop :=
  ∀ (bytes : List Byte) (i : Instr) (rest : List Byte), decode bytes = .ok (i, rest) → bytes = encode i ++ rest

/-- Exactly the 151 opcodes of the grid are defined, none of them ends in the bits 11, and a step that fetches any
other byte as an opcode stops with the fault UndefinedOpcode (R107). That the model stops there is the spec's decision
D1 (log 23). -/
def Obligations.UndefinedOpcodeFaults : Prop :=
  definedOpcodes.length = 151 ∧
  (∀ op : Byte, opcodeLength op = none ↔ op.toNat ∉ definedOpcodes) ∧
  (∀ op : Byte, op.toNat % 4 = 3 → opcodeLength op = none) ∧
  ∀ s t : State, s.poll = .execute t → (t.busRead t.pc).st.resPin ≠ .low →
    (t.busRead t.pc).val.toNat ∉ definedOpcodes → step s = .fault (.undefinedOpcode (t.busRead t.pc).val)

/-- Words written out from the opcode table decode to the instructions they stand for, one of each family. -/
def Obligations.DecodedSampleWords : Prop :=
  decode [0xBD, 0xFF, 0x12] = .ok (.ldaAbsX 0x12FF, []) ∧
  decode [0x96, 0xF0] = .ok (.stxZpY 0xF0, []) ∧
  decode [0x9A] = .ok (.txs, []) ∧
  decode [0x71, 0x40] = .ok (.adcIndY 0x40, []) ∧
  decode [0x2C, 0x34, 0x12] = .ok (.bitAbs 0x1234, []) ∧
  decode [0xC9, 0x41] = .ok (.cmpImm 0x41, []) ∧
  decode [0xF6, 0xFF] = .ok (.incZpX 0xFF, []) ∧
  decode [0x6A] = .ok (.rorAcc, []) ∧
  decode [0xD0, 0xFB] = .ok (.bne 0xFB, []) ∧
  decode [0x6C, 0xFF, 0x30] = .ok (.jmpInd 0x30FF, []) ∧
  decode [0x28] = .ok (.plp, []) ∧
  decode [0x78] = .ok (.sei, []) ∧
  decode [0x00, 0xEA] = .ok (.brk, [0xEA])

/-! ## The step -/

/-- A step without an event reads the opcode at PC, then as many operand bytes as it asks for at the next addresses, each
once and in this order, and runs the instruction they decode to in the state after those reads, with PC still at its
first byte; then the step ends as every step does. If RES falls before the opcode is read there is no instruction
(R81, R204, R217). -/
def Obligations.StepRunsDecodedInstruction : Prop :=
  ∀ (s t : State), s.poll = .execute t →
    ((t.busRead t.pc).st.resPin = .low → step s = ended s (.next (t.busRead t.pc).st)) ∧
    ((t.busRead t.pc).st.resPin ≠ .low → ∀ (len : Nat) (i : Instr) (rest : List Byte),
      opcodeLength (t.busRead t.pc).val = some len →
      decode ((t.busRead t.pc).val :: ((t.busRead t.pc).st.readBytes (t.pc + 1) (len - 1)).1) = .ok (i, rest) →
      step s = ended s (exec i ((t.busRead t.pc).st.readBytes (t.pc + 1) (len - 1)).2))

/-- When no event is due, no RDY halt is due, and the bytes of an instruction stand in plain memory at PC (also across
the top of memory, R26), a step runs exactly that instruction and ends; the boundary has used up its inputs, an S.O.
edge among them (R81, R204, R218). That PC wraps from 0xFFFF to 0x0000 is the spec's decision D5 (log 15). -/
def Obligations.StepExecutesMemory : Prop :=
  ∀ (s : State) (i : Instr), noEvent s → (sampled s).notHeld → holdsInstruction (sampled s) i →
    step s = ended s (exec i (sampled s))

/-- A step never refuses, and the only fault is an undefined opcode fetched at a boundary with no event (R200, R107).
That an undefined opcode stops the model is the spec's decision D1 (log 23). -/
def Obligations.StepStopsOnlyAtUndefinedOpcode : Prop :=
  ∀ s : State, (∀ r, step s ≠ .refused r) ∧
    ∀ f, step s = .fault f → ∃ t, s.poll = .execute t ∧
      f = .undefinedOpcode (t.busRead t.pc).val ∧ opcodeLength (t.busRead t.pc).val = none

/-- Every instruction answers a next state from every state; BRK's is its interrupt sequence, the one exception an
instruction raises (R200, R203). -/
def Obligations.EveryInstructionCompletes : Prop :=
  ∀ (i : Instr) (s : State), ∃ t, exec i s = .next t

/-! ## The bus and the stack -/

/-- The bus address is the address modulo 2 to the number of address pins, so addresses that differ only in the bits
above reach the same location, for reads and for writes (R52, R3). The truncation is R52's own inference from the pin
counts. -/
def Obligations.BusTruncation : Prop :=
  ∀ s : State, (∀ addr : Word, s.busAddr addr = addr.toNat % 2 ^ pinsOf s.cfg.part) ∧
    ∀ (a b : Word) (v : Byte), a.toNat % 2 ^ pinsOf s.cfg.part = b.toNat % 2 ^ pinsOf s.cfg.part →
      s.busRead a = s.busRead b ∧ s.busWrite a v = s.busWrite b v

/-- What a bus write does, and what a bus read sees of it (R53, R55, R67). A write can change nothing but memory and
the state of devices. RAM keeps the byte: no other location changes, and every address that reaches the same location
(a mirror) reads it back, a read that nothing holds changing nothing. Read-only memory loses it. Elsewhere the entry
of MEMORY_MAP for the access, if there is one, says what a device answers and what changes; with no entry a write
changes nothing but the memory behind, and a read gives the byte of that memory, or with none some value. Once RES is
low the processor neither reads nor writes (R45, R217, R243). That MEMORY_MAP is given by regions and a table of
entries is log 8's, that RES falls after a count of accesses log 21's. -/
def Obligations.WriteKeptByRamOnly : Prop :=
  ∀ (s : State) (addr : Word) (v : Byte),
    s.busWrite addr v =
      { s with
        mem := (s.busWrite addr v).mem, plat := (s.busWrite addr v).plat, resPin := (s.busWrite addr v).resPin } ∧
    (s.resPin = .low ∨ s.resPin = .fallsAfter 0 →
      s.busWrite addr v = { s with resPin := .low } ∧
      (s.processorRead addr).st = { s with resPin := .low, draws := s.draws + 1 }) ∧
    (∀ n, s.resPin = .fallsAfter (n + 1) →
      s.busWrite addr v = { s with resPin := .fallsAfter n }.platformWrite addr v ∧
      s.processorRead addr = { s with resPin := .fallsAfter n }.platformRead addr) ∧
    (s.resPin = .high →
      (s.kindAt addr = .ram → (s.busWrite addr v).plat = s.plat ∧ (s.busWrite addr v).resPin = .high ∧
        (∀ other : Word, s.cellAt other ≠ s.cellAt addr → (s.busWrite addr v).peek other = s.peek other) ∧
        (s.Inv → ∀ other : Word, s.cellAt other = s.cellAt addr → (s.busWrite addr v).peek other = v ∧
          (s.notHeld → (s.kindAt other).plain = true →
            (s.busWrite addr v).busRead other = { val := v, st := s.busWrite addr v }))) ∧
      (s.kindAt addr = .rom → s.busWrite addr v = s) ∧
      (s.plat.moves = [] →
        let after (t : State) : State :=
          match s.ruleFor addr (.write v) with
          | none => t
          | some r => ruled t r
        (s.kindAt addr = .external ∨ s.kindAt addr = .watchedRom → s.busWrite addr v = after s) ∧
        (s.kindAt addr = .watchedRam →
          s.busWrite addr v = after { s with mem := Memory.write s.mem (s.cellAt addr) v })) ∧
      (s.plat.moves = [] → s.notHeld → (s.kindAt addr).plain = false →
        let entry := s.ruleFor addr .read
        let after : State :=
          match entry with
          | none => s
          | some r => ruled s r
        (∀ a, entry.bind (·.answer) = some a → s.busRead addr = { val := a, st := after }) ∧
        (entry.bind (·.answer) = none → s.kindAt addr ≠ .external →
          s.busRead addr = { val := s.peek addr, st := after }) ∧
        (entry.bind (·.answer) = none → s.kindAt addr = .external →
          ∃ a, s.busRead addr = { val := a, st := { after with draws := s.draws + 1 } })))

/-- A RDY halt: what another bus master does meanwhile happens, oldest first, nothing of the processor changes, and
the halt's cycles are counted; a read completes after the halt with the byte then on the bus, unless RES falls; a
write is never held; a part without RDY is never held, and once RES is low RDY holds nothing (R66, R44, R8, R217). The
schedule of halts is log 5's; that the SY6515 has RDY is 90_conflicts.md C5. -/
def Obligations.RdyHoldsReadsOnly : Prop :=
  ∀ (s : State) (addr : Word),
    (∀ h rest, s.cfg.part ∈ rdyParts → s.resPin ≠ .low → s.halts = h :: rest →
      s.takeHalt = h.acts.foldl
        (fun (t : State) act =>
          match act with
          | .read a => (t.platformRead a).st
          | .write a v => t.platformWrite a v
          | .poke cell v => t.poke cell v)
        { s with halts := rest, cycles := s.cycles + h.cycles }) ∧
    (s.cfg.part ∉ rdyParts ∨ s.halts = [] ∨ s.resPin = .low → s.takeHalt = s) ∧
    s.busRead addr = s.takeHalt.processorRead addr ∧
    (s.resPin = .high → s.busRead addr = s.takeHalt.platformRead addr) ∧
    (s.busRead addr).st =
      { s with
        mem := (s.busRead addr).st.mem, cycles := (s.busRead addr).st.cycles, draws := (s.busRead addr).st.draws
        halts := (s.busRead addr).st.halts, plat := (s.busRead addr).st.plat
        resPin := (s.busRead addr).st.resPin } ∧
    ∀ v, (s.busWrite addr v).cycles = s.cycles ∧ (s.busWrite addr v).halts = s.halts

/-- A push stores at the address S points to in the stack page, then decrements S modulo 256; a pull increments S
modulo 256, then reads at the address S points to, and the byte stays in memory (R60, R61). That the stack lies in
page one is the spec's decision D4 (log 14). -/
def Obligations.StackPrimitives : Prop :=
  ∀ s : State,
    (∀ v : Byte, s.push v = { s.busWrite (stack s.sp) v with sp := BitVec.ofNat 8 ((s.sp.toNat + 255) % 256) }) ∧
    (let up : Byte := BitVec.ofNat 8 ((s.sp.toNat + 1) % 256)
     s.pull = { s with sp := up }.busRead (stack up)) ∧
    (s.undisturbed → s.pull.st.mem = s.mem)

/-- Pulling after a push gives back the byte and S, the stack byte being RAM; with S = 0x00 both wrap (R60, R61, R24).
That the stack lies in page one is the spec's decision D4 (log 14). -/
def Obligations.PullUndoesPush : Prop :=
  ∀ (s : State) (v : Byte), s.Inv → s.notHeld → s.kindAt (stack s.sp) = .ram →
    (s.push v).pull.val = v ∧ (s.push v).pull.st = s.busWrite (stack s.sp) v

/-! ## Addressing modes -/

/-- Immediate, absolute, zero page and the zero page indexed modes: the operand or the effective address is as given, the
mode reads nothing itself, and no page is crossed; the length of each mode; the two operand bytes of an absolute address
are read low byte first (R86 to R90). -/
def Obligations.DirectModes : Prop :=
  ∀ (s : State) (b b2 : Byte) (w : Word),
    (modeLength .immediate = 2 ∧ modeLength .absolute = 3 ∧ modeLength .zeroPage = 2 ∧ modeLength .zeroPageX = 2 ∧
      modeLength .zeroPageY = 2) ∧
    decode [0xAD, b, b2] = .ok (.ldaAbs (word b2 b), []) ∧
    s.operand (.imm b) = { val := b, crossed := false, st := s } ∧
    s.locate (.abs w) = { ea := w, crossed := false, st := s } ∧
    s.locate (.zp b) = { ea := BitVec.ofNat 16 b.toNat, crossed := false, st := s } ∧
    s.locate (.zpX b) = { ea := BitVec.ofNat 16 ((b.toNat + s.x.toNat) % 256), crossed := false, st := s } ∧
    s.locate (.zpY b) = { ea := BitVec.ofNat 16 ((b.toNat + s.y.toNat) % 256), crossed := false, st := s }

/-- Absolute indexed: the index is added as an unsigned number modulo 65536, and a page is crossed when the low byte
and the index add up to more than 255 (R91, R92). The wrap past 0xFFFF is the spec's decision D5 (log 15). -/
def Obligations.AbsoluteIndexedModes : Prop :=
  ∀ (s : State) (w : Word),
    s.locate (.absX w) =
      { ea := BitVec.ofNat 16 ((w.toNat + s.x.toNat) % 65536)
        crossed := decide (255 < w.toNat % 256 + s.x.toNat), st := s } ∧
    s.locate (.absY w) =
      { ea := BitVec.ofNat 16 ((w.toNat + s.y.toNat) % 65536)
        crossed := decide (255 < w.toNat % 256 + s.y.toNat), st := s }

/-- The indirect modes: both pointer bytes are read in page zero, low byte first, the second at the next address
modulo 256; (indirect),Y adds Y to the pointer and crosses a page on the carry of the low byte (R95, R96). That the
pointer's second byte wraps inside page zero is the spec's own reading. -/
def Obligations.IndirectModes : Prop :=
  ∀ (s : State) (b : Byte),
    (let p := (b.toNat + s.x.toNat) % 256
     let lo := s.busRead (BitVec.ofNat 16 p)
     let hi := lo.st.busRead (BitVec.ofNat 16 ((p + 1) % 256))
     s.locate (.indX b) = { ea := word hi.val lo.val, crossed := false, st := hi.st }) ∧
    (let lo := s.busRead (BitVec.ofNat 16 b.toNat)
     let hi := lo.st.busRead (BitVec.ofNat 16 ((b.toNat + 1) % 256))
     let sum := lo.val.toNat + s.y.toNat
     s.locate (.indY b) =
       { ea := BitVec.ofNat 16 ((hi.val.toNat * 256 + sum) % 65536), crossed := decide (255 < sum), st := hi.st })

/-- The operand in memory is read once at the effective address, after the mode's own reads (R16, R63); no read of an
operand changes a register, a flag, or, while no other bus master and no device changes it, memory. The single read is
the spec's own inference in R16 and R63. -/
def Obligations.OperandReadOnce : Prop :=
  ∀ (s : State) (addr : Address),
    s.operand (.mem addr) =
      { val := ((s.locate addr).st.busRead (s.locate addr).ea).val, crossed := (s.locate addr).crossed
        st := ((s.locate addr).st.busRead (s.locate addr).ea).st } ∧
    (let t := (s.operand (.mem addr)).st
     t = { s with
       mem := t.mem, cycles := t.cycles, draws := t.draws, halts := t.halts, plat := t.plat, resPin := t.resPin }) ∧
    (s.undisturbed → (s.operand (.mem addr)).st.mem = s.mem)

/-! ## Loads, stores, transfers -/

/-- LDA, LDX, LDY in all 18 forms: the register takes M, N and Z follow M, nothing else changes (R111, R112, R113).
LDA's flags are the spec's own reading of a row that is not legible. -/
def Obligations.Loads : Prop :=
  ∀ (m b : Byte) (w : Word) (s : State),
    (∀ f ∈ ldaRows m b w, encodedAs f.instr f.op f.len ∧
      exec f.instr s = .next { afterRead s f with a := operandOf s f, p := nz s.p (operandOf s f) }) ∧
    (∀ f ∈ ldxRows m b w, encodedAs f.instr f.op f.len ∧
      exec f.instr s = .next { afterRead s f with x := operandOf s f, p := nz s.p (operandOf s f) }) ∧
    (∀ f ∈ ldyRows m b w, encodedAs f.instr f.op f.len ∧
      exec f.instr s = .next { afterRead s f with y := operandOf s f, p := nz s.p (operandOf s f) })

/-- STA, STX, STY in all 13 forms: one write of the register at the effective address, no read of it, no flag, and no
register changes (R114, R115, R116). -/
def Obligations.Stores : Prop :=
  ∀ (b : Byte) (w : Word) (s : State),
    (∀ f ∈ staRows b w, encodedAs f.instr f.op f.len ∧
      exec f.instr s = .next ((located s f).st.busWrite (located s f).ea s.a)) ∧
    (∀ f ∈ stxRows b w, encodedAs f.instr f.op f.len ∧
      exec f.instr s = .next ((located s f).st.busWrite (located s f).ea s.x)) ∧
    (∀ f ∈ styRows b w, encodedAs f.instr f.op f.len ∧
      exec f.instr s = .next ((located s f).st.busWrite (located s f).ea s.y))

/-- TAX, TAY, TXA, TYA, TSX, TXS: the destination takes the source; N and Z follow it except for TXS, which writes no flag;
nothing else changes (R117 to R122). -/
def Obligations.Transfers : Prop :=
  ∀ s : State,
    (encodedAs .tax 0xAA 1 ∧ exec .tax s = .next { started s 1 2 with x := s.a, p := nz s.p s.a }) ∧
    (encodedAs .tay 0xA8 1 ∧ exec .tay s = .next { started s 1 2 with y := s.a, p := nz s.p s.a }) ∧
    (encodedAs .txa 0x8A 1 ∧ exec .txa s = .next { started s 1 2 with a := s.x, p := nz s.p s.x }) ∧
    (encodedAs .tya 0x98 1 ∧ exec .tya s = .next { started s 1 2 with a := s.y, p := nz s.p s.y }) ∧
    (encodedAs .tsx 0xBA 1 ∧ exec .tsx s = .next { started s 1 2 with x := s.sp, p := nz s.p s.sp }) ∧
    (encodedAs .txs 0x9A 1 ∧ exec .txs s = .next { started s 1 2 with sp := s.x })

/-! ## Arithmetic and logic -/

/-- ADC in binary mode, all 8 forms (R131). The set of flags and V's formula are the spec's own reading. -/
def Obligations.AdcBinary : Prop :=
  ∀ (m b : Byte) (w : Word) (s : State), ∀ f ∈ adcRows m b w, encodedAs f.instr f.op f.len ∧
    (s.p.d = false →
      let M := operandOf s f
      let sum := s.a.toNat + M.toNat + s.p.c.toNat
      let r : Byte := BitVec.ofNat 8 (sum % 256)
      exec f.instr s = .next { afterRead s f with
        a := r
        p := { nz s.p r with
          c := decide (255 < sum), v := decide (top s.a = top M ∧ top r ≠ top s.a) } })

/-- SBC in binary mode, all 8 forms (R132). V's formula is the spec's own reading. -/
def Obligations.SbcBinary : Prop :=
  ∀ (m b : Byte) (w : Word) (s : State), ∀ f ∈ sbcRows m b w, encodedAs f.instr f.op f.len ∧
    (s.p.d = false →
      let M := operandOf s f
      let diff : Int := (s.a.toNat : Int) - M.toNat - (1 - s.p.c.toNat)
      let r : Byte := BitVec.ofNat 8 (diff % 256).toNat
      exec f.instr s = .next { afterRead s f with
        a := r
        p := { nz s.p r with
          c := decide (0 ≤ diff), v := decide (top s.a ≠ top M ∧ top r ≠ top s.a) } })

/-- ADC and SBC in decimal mode on valid BCD operands, all 16 forms and both values of DECIMAL_FLAGS: A and C are
exact, N, V and Z are some values, two free values are drawn (log 6), nothing else changes (R133). The whole
definition is the spec's own. -/
def Obligations.DecimalArithmetic : Prop :=
  ∀ (m b : Byte) (w : Word) (s : State), s.p.d = true → isBcd s.a →
    (∀ f ∈ adcRows m b w, isBcd (operandOf s f) →
      let k := decimal s.a + decimal (operandOf s f) + s.p.c.toNat
      ∃ n v z : Bool, exec f.instr s = .next { afterRead s f with
        draws := (fetched s f).st.draws + 2
        a := bcdByte (k % 100)
        p := { s.p with n := n, v := v, z := z, c := decide (99 < k) } }) ∧
    (∀ f ∈ sbcRows m b w, isBcd (operandOf s f) →
      let k : Int := (decimal s.a : Int) - decimal (operandOf s f) - (1 - s.p.c.toNat)
      ∃ n v z : Bool, exec f.instr s = .next { afterRead s f with
        draws := (fetched s f).st.draws + 2
        a := bcdByte (k % 100).toNat
        p := { s.p with n := n, v := v, z := z, c := decide (0 ≤ k) } })

/-- ADC and SBC in decimal mode complete on operands that are not valid BCD too: A, C, N, V and Z hold some values and
everything else is as for valid ones (R133, 93_implementation_defined.md U5; log 9). -/
def Obligations.DecimalArithmeticOnInvalidDigits : Prop :=
  ∀ (m b : Byte) (w : Word) (s : State), s.p.d = true →
    ∀ f ∈ adcRows m b w ++ sbcRows m b w, ¬ (isBcd s.a ∧ isBcd (operandOf s f)) →
      ∃ (r : Byte) (n v z c : Bool), exec f.instr s = .next { afterRead s f with
        draws := (fetched s f).st.draws + 2
        a := r
        p := { s.p with n := n, v := v, z := z, c := c } }

/-- The flags of decimal arithmetic on valid operands under DECIMAL_FLAGS = nmos: after ADC, Z is that of the binary
sum, N and V those of the sum before the high digit is corrected; after SBC, N, V, Z and C are those of the binary SBC
(93_implementation_defined.md G4). They are the spec's general knowledge. -/
def Obligations.NmosDecimalFlags : Prop :=
  ∀ (m b : Byte) (w : Word) (s : State), s.p.d = true → s.cfg.decimalFlags = .nmos → isBcd s.a →
    (∀ f ∈ adcRows m b w, isBcd (operandOf s f) → ∃ t, exec f.instr s = .next t ∧
      let M := operandOf s f
      let low := s.a.toNat % 16 + M.toNat % 16 + s.p.c.toNat
      let mid : Byte := BitVec.ofNat 8 (16 * (s.a.toNat / 16 + M.toNat / 16) + (if 9 < low then low + 6 else low))
      t.p.z = decide ((s.a.toNat + M.toNat + s.p.c.toNat) % 256 = 0) ∧ t.p.n = top mid ∧
        t.p.v = decide (top s.a = top M ∧ top mid ≠ top s.a)) ∧
    (∀ f ∈ sbcRows m b w, isBcd (operandOf s f) → ∃ t u, exec f.instr s = .next t ∧
      exec f.instr (withD s false) = .next u ∧ t.p = { u.p with d := true })

/-- After a binary ADC or SBC, V is 1 exactly when the true signed result lies outside -128 to +127 (R147). The
definition of V is the spec's own. -/
def Obligations.OverflowIsSignedOverflow : Prop :=
  ∀ (m b : Byte) (w : Word) (s : State), s.p.d = false →
    (∀ f ∈ adcRows m b w, ∃ t, exec f.instr s = .next t ∧
      let r : Int := s.a.toInt + (operandOf s f).toInt + s.p.c.toNat
      (t.p.v = true ↔ r < -128 ∨ 127 < r)) ∧
    (∀ f ∈ sbcRows m b w, ∃ t, exec f.instr s = .next t ∧
      let r : Int := s.a.toInt - (operandOf s f).toInt - (1 - s.p.c.toNat)
      (t.p.v = true ↔ r < -128 ∨ 127 < r))

/-- Two ADCs chained through C, after CLC, add 16-bit numbers; two SBCs chained through C, after SEC, subtract them; A is
reloaded between the two without touching C (R147). -/
def Obligations.CarryChainsAcrossBytes : Prop :=
  ∀ (s : State) (x y : Word), s.p.d = false →
    (∃ t u, exec (.adcImm (low y)) { s with a := low x, p := { s.p with c := false } } = .next t ∧
      exec (.adcImm (high y)) { t with a := high x } = .next u ∧
      word u.a t.a = BitVec.ofNat 16 ((x.toNat + y.toNat) % 65536) ∧ u.p.c = decide (65535 < x.toNat + y.toNat)) ∧
    (∃ t u, exec (.sbcImm (low y)) { s with a := low x, p := { s.p with c := true } } = .next t ∧
      exec (.sbcImm (high y)) { t with a := high x } = .next u ∧
      word u.a t.a = BitVec.ofNat 16 ((x.toNat + 65536 - y.toNat) % 65536) ∧ u.p.c = decide (y.toNat ≤ x.toNat))

/-- AND, ORA, EOR in all 24 forms: A takes the bitwise result, N and Z follow it (R134, R135, R136). The flags of AND
and EOR and ORA's page cycle are the spec's own reading. -/
def Obligations.Logic : Prop :=
  ∀ (m b : Byte) (w : Word) (s : State),
    (∀ f ∈ andRows m b w, encodedAs f.instr f.op f.len ∧
      exec f.instr s =
        .next { afterRead s f with a := s.a &&& operandOf s f, p := nz s.p (s.a &&& operandOf s f) }) ∧
    (∀ f ∈ oraRows m b w, encodedAs f.instr f.op f.len ∧
      exec f.instr s =
        .next { afterRead s f with a := s.a ||| operandOf s f, p := nz s.p (s.a ||| operandOf s f) }) ∧
    (∀ f ∈ eorRows m b w, encodedAs f.instr f.op f.len ∧
      exec f.instr s =
        .next { afterRead s f with a := s.a ^^^ operandOf s f, p := nz s.p (s.a ^^^ operandOf s f) })

/-- CMP, CPX, CPY in all 14 forms: N and Z follow the difference modulo 256, C is 1 when the register is at least the
operand as unsigned numbers, nothing else changes (R137, R138, R139). The flags of the compares are the spec's general
knowledge. -/
def Obligations.Compares : Prop :=
  ∀ (m b : Byte) (w : Word) (s : State),
    let after (f : ReadRow) (r : Byte) : State :=
      { afterRead s f with
        p := { nz s.p (BitVec.ofNat 8 ((r.toNat + 256 - (operandOf s f).toNat) % 256)) with
          c := decide ((operandOf s f).toNat ≤ r.toNat) } }
    (∀ f ∈ cmpRows m b w, encodedAs f.instr f.op f.len ∧ exec f.instr s = .next (after f s.a)) ∧
    (∀ f ∈ cpxRows m b w, encodedAs f.instr f.op f.len ∧ exec f.instr s = .next (after f s.x)) ∧
    (∀ f ∈ cpyRows m b w, encodedAs f.instr f.op f.len ∧ exec f.instr s = .next (after f s.y))

/-- BIT in both forms: N and V are bits 7 and 6 of M, Z says whether A AND M is zero, nothing else changes (R140). -/
def Obligations.BitTest : Prop :=
  ∀ (b : Byte) (w : Word) (s : State), ∀ f ∈ bitRows b w, encodedAs f.instr f.op f.len ∧
    exec f.instr s = .next { afterRead s f with
      p := { s.p with
        n := digit (operandOf s f) 7, v := digit (operandOf s f) 6
        z := decide ((s.a &&& operandOf s f).toNat = 0) } }

/-- INC and DEC in all 8 forms: one read, then one write of the byte plus or minus one modulo 256 at the same address,
with a point between where RDY can hold the processor and another bus master act (R64, log 26); N and Z follow it;
nothing else changes (R141, R142). The flags are the spec's general knowledge. -/
def Obligations.IncrementsOfMemory : Prop :=
  ∀ (b : Byte) (w : Word) (s : State),
    (∀ f ∈ incRows b w, encodedAs f.instr f.op f.len ∧
      let v : Byte := BitVec.ofNat 8 (((oldByte s f).val.toNat + 1) % 256)
      exec f.instr s = .next (written s f v (nz s.p v))) ∧
    (∀ f ∈ decRows b w, encodedAs f.instr f.op f.len ∧
      let v : Byte := BitVec.ofNat 8 (((oldByte s f).val.toNat + 255) % 256)
      exec f.instr s = .next (written s f v (nz s.p v)))

/-- INX, INY, DEX, DEY: the register plus or minus one modulo 256; N and Z follow it; nothing else changes (R143 to
R146). The flags are the spec's general knowledge. -/
def Obligations.IncrementsOfIndexes : Prop :=
  ∀ s : State,
    let up (v : Byte) : Byte := BitVec.ofNat 8 ((v.toNat + 1) % 256)
    let down (v : Byte) : Byte := BitVec.ofNat 8 ((v.toNat + 255) % 256)
    (encodedAs .inx 0xE8 1 ∧ exec .inx s = .next { started s 1 2 with x := up s.x, p := nz s.p (up s.x) }) ∧
    (encodedAs .iny 0xC8 1 ∧ exec .iny s = .next { started s 1 2 with y := up s.y, p := nz s.p (up s.y) }) ∧
    (encodedAs .dex 0xCA 1 ∧ exec .dex s = .next { started s 1 2 with x := down s.x, p := nz s.p (down s.x) }) ∧
    (encodedAs .dey 0x88 1 ∧ exec .dey s = .next { started s 1 2 with y := down s.y, p := nz s.p (down s.y) })

/-! ## Shifts and rotates -/

/-- ASL and LSR in all 10 forms (R151, R152). ASL's picture and flags are the spec's own reading; the point between
the read and the write where another bus master can act is log 26's. -/
def Obligations.Shifts : Prop :=
  ∀ (b : Byte) (w : Word) (s : State),
    let left (v : Byte) : Byte := BitVec.ofNat 8 (v.toNat * 2 % 256)
    let leftFlags (v : Byte) : Flags := { nz s.p (left v) with c := digit v 7 }
    let right (v : Byte) : Byte := BitVec.ofNat 8 (v.toNat / 2)
    let rightFlags (v : Byte) : Flags :=
      { s.p with n := false, z := decide ((right v).toNat = 0), c := digit v 0 }
    (encodedAs .aslAcc 0x0A 1 ∧
      exec .aslAcc s = .next { started s 1 2 with a := left s.a, p := leftFlags s.a }) ∧
    (∀ f ∈ aslRows b w, encodedAs f.instr f.op f.len ∧
      exec f.instr s = .next (written s f (left (oldByte s f).val) (leftFlags (oldByte s f).val))) ∧
    (encodedAs .lsrAcc 0x4A 1 ∧
      exec .lsrAcc s = .next { started s 1 2 with a := right s.a, p := rightFlags s.a }) ∧
    (∀ f ∈ lsrRows b w, encodedAs f.instr f.op f.len ∧
      exec f.instr s = .next (written s f (right (oldByte s f).val) (rightFlags (oldByte s f).val)))

/-- ROL and ROR in all 10 forms: nine bits rotate, the byte and C (R153, R154). That the rotates go through C is the
spec's general knowledge in R150 (log 14); the point between the read and the write where another bus master can act
is log 26's. -/
def Obligations.Rotates : Prop :=
  ∀ (b : Byte) (w : Word) (s : State),
    let left (v : Byte) : Byte := BitVec.ofNat 8 (v.toNat * 2 % 256 + s.p.c.toNat)
    let leftFlags (v : Byte) : Flags := { nz s.p (left v) with c := digit v 7 }
    let right (v : Byte) : Byte := BitVec.ofNat 8 (v.toNat / 2 + s.p.c.toNat * 128)
    let rightFlags (v : Byte) : Flags := { nz s.p (right v) with c := digit v 0 }
    (encodedAs .rolAcc 0x2A 1 ∧
      exec .rolAcc s = .next { started s 1 2 with a := left s.a, p := leftFlags s.a }) ∧
    (∀ f ∈ rolRows b w, encodedAs f.instr f.op f.len ∧
      exec f.instr s = .next (written s f (left (oldByte s f).val) (leftFlags (oldByte s f).val))) ∧
    (encodedAs .rorAcc 0x6A 1 ∧
      exec .rorAcc s = .next { started s 1 2 with a := right s.a, p := rightFlags s.a }) ∧
    (∀ f ∈ rorRows b w, encodedAs f.instr f.op f.len ∧
      exec f.instr s = .next (written s f (right (oldByte s f).val) (rightFlags (oldByte s f).val)))

/-- Nine ROLs restore the byte and the carry, nine RORs too, and a ROR undoes a ROL (R153, R154). That the rotates go
through C is the spec's general knowledge in R150 (log 14). -/
def Obligations.NineRotatesRestore : Prop :=
  ∀ s : State,
    (∃ t, execTimes .rolAcc 9 s = .next t ∧ t.a = s.a ∧ t.p.c = s.p.c) ∧
    (∃ t, execTimes .rorAcc 9 s = .next t ∧ t.a = s.a ∧ t.p.c = s.p.c) ∧
    (∃ t u, exec .rolAcc s = .next t ∧ exec .rorAcc t = .next u ∧ u.a = s.a ∧ u.p.c = s.p.c)

/-! ## Control transfer -/

/-- The eight branches: when the condition holds PC moves by the signed offset from the next instruction modulo 65536,
with one more cycle, or two to another page than the next instruction's; else PC is at the next instruction; nothing
else changes (R94, R160 to R168, R257). Which pages are compared, and the wrap (D5, log 15), are the spec's own. -/
def Obligations.Branches : Prop :=
  ∀ (off : Byte) (s : State), ∀ r ∈ branchRows off s.p, encodedAs r.1 r.2.1 2 ∧
    let next := (s.pc.toNat + 2) % 65536
    let target := (((next : Int) + off.toInt) % 65536).toNat
    exec r.1 s = .next { started s 2 2 with
      pc := BitVec.ofNat 16 (if r.2.2 then target else next)
      cycles := s.cycles + (if r.2.2 then (if target / 256 = next / 256 then 3 else 4) else 2) }

/-- JMP: absolute, PC takes the operand; indirect, PC takes the word at the pointer, low byte first, the high byte at
the next address, or under JMP_IND_WRAP = same_page at the next address of the same page; nothing else changes (R169,
R97). The value same_page is the spec's general knowledge (log 18). -/
def Obligations.Jumps : Prop :=
  ∀ (w : Word) (s : State),
    (encodedAs (.jmpAbs w) 0x4C 3 ∧ exec (.jmpAbs w) s = .next { started s 3 3 with pc := w }) ∧
    (encodedAs (.jmpInd w) 0x6C 3 ∧
      let second : Nat := match s.cfg.jmpIndWrap with
        | .next => (w.toNat + 1) % 65536
        | .samePage => w.toNat / 256 * 256 + (w.toNat + 1) % 256
      let lo := (started s 3 5).busRead w
      let hi := lo.st.busRead (BitVec.ofNat 16 second)
      exec (.jmpInd w) s = .next { hi.st with pc := word hi.val lo.val })

/-- JSR pushes the address of its own last byte, high byte first, and PC takes the operand; RTS pulls the low byte,
then the high byte, and PC is one more than the word pulled (R170, R171). What is saved, where and in which order is
the spec's general knowledge (log 14). -/
def Obligations.Subroutines : Prop :=
  ∀ (w : Word) (s : State),
    (encodedAs (.jsr w) 0x20 3 ∧
      let ret : Word := BitVec.ofNat 16 ((s.pc.toNat + 2) % 65536)
      let s1 : State := { (started s 3 6).busWrite (stack s.sp) (high ret) with sp := s.sp - 1 }
      let s2 : State := { s1.busWrite (stack (s.sp - 1)) (low ret) with sp := s.sp - 2 }
      exec (.jsr w) s = .next { s2 with pc := w }) ∧
    (encodedAs .rts 0x60 1 ∧
      let lo := { started s 1 6 with sp := s.sp + 1 }.busRead (stack (s.sp + 1))
      let hi := { lo.st with sp := s.sp + 2 }.busRead (stack (s.sp + 2))
      exec .rts s = .next { hi.st with pc := BitVec.ofNat 16 ((hi.val.toNat * 256 + lo.val.toNat + 1) % 65536) })

/-- RTS undoes JSR: with RAM at the two stack bytes, at two locations, and no RDY halt, PC is after the JSR, S is as
before, and A, X, Y and the flags have passed through (R170, R171, R172). The linkage is the spec's own (log 14). -/
def Obligations.ReturnUndoesJump : Prop :=
  ∀ (w : Word) (s : State), s.Inv → s.notHeld →
    s.kindAt (stack s.sp) = .ram → s.kindAt (stack (s.sp - 1)) = .ram →
    s.cellAt (stack s.sp) ≠ s.cellAt (stack (s.sp - 1)) →
    ∃ t u, exec (.jsr w) s = .next t ∧ t.pc = w ∧ exec .rts t = .next u ∧
      u.pc = BitVec.ofNat 16 ((s.pc.toNat + 3) % 65536) ∧ u.sp = s.sp ∧ u.a = s.a ∧ u.x = s.x ∧ u.y = s.y ∧ u.p = s.p

/-! ## Stack, flags, system -/

/-- PHA and PHP: one stack byte is written, A or the status byte with bits 5 and 4 set, then S is one less; no flag
and no other register changes (R181, R182). Bits 5 and 4 and the stack's page are the spec's decisions (log 14). -/
def Obligations.PushInstructions : Prop :=
  ∀ s : State,
    (encodedAs .pha 0x48 1 ∧
      exec .pha s = .next { (started s 1 3).busWrite (stack s.sp) s.a with sp := s.sp - 1 }) ∧
    (encodedAs .php 0x08 1 ∧
      exec .php s = .next { (started s 1 3).busWrite (stack s.sp) (statusByte s.p true) with sp := s.sp - 1 })

/-- PLA and PLP: S is one more, then one stack byte is read: into A, with N and Z, or into all six flags, bits 5 and 4
ignored (R183, R184). The mask PLP replaced is kept for the next boundary (R208, log 11). The stack's page is the
spec's decision (log 14). -/
def Obligations.PullInstructions : Prop :=
  ∀ s : State,
    let r := { started s 1 4 with sp := s.sp + 1 }.busRead (stack (s.sp + 1))
    (encodedAs .pla 0x68 1 ∧ exec .pla s = .next { r.st with a := r.val, p := nz s.p r.val }) ∧
    (encodedAs .plp 0x28 1 ∧
      exec .plp s = .next { r.st with p := statusFlags r.val, priorMask := some s.p.i })

/-- CLC, CLD, CLI, CLV, SEC, SED, SEI each write their one flag, NOP writes nothing; nothing else changes but PC (R185 to
R192). The mask that CLI or SEI replaced may be held for the next boundary, of which MaskSampling speaks. -/
def Obligations.FlagInstructions : Prop :=
  ∀ s : State,
    (encodedAs .clc 0x18 1 ∧ exec .clc s = .next { started s 1 2 with p := { s.p with c := false } }) ∧
    (encodedAs .cld 0xD8 1 ∧ exec .cld s = .next { started s 1 2 with p := { s.p with d := false } }) ∧
    (encodedAs .cli 0x58 1 ∧ ∃ mask : Option Bool,
      exec .cli s = .next { started s 1 2 with p := { s.p with i := false }, priorMask := mask }) ∧
    (encodedAs .clv 0xB8 1 ∧ exec .clv s = .next { started s 1 2 with p := { s.p with v := false } }) ∧
    (encodedAs .sec 0x38 1 ∧ exec .sec s = .next { started s 1 2 with p := { s.p with c := true } }) ∧
    (encodedAs .sed 0xF8 1 ∧ exec .sed s = .next { started s 1 2 with p := { s.p with d := true } }) ∧
    (encodedAs .sei 0x78 1 ∧ ∃ mask : Option Bool,
      exec .sei s = .next { started s 1 2 with p := { s.p with i := true }, priorMask := mask }) ∧
    (encodedAs .nop 0xEA 1 ∧ exec .nop s = .next (started s 1 2))

/-- BRK: the interrupt sequence through 0xFFFE with the address two past the BRK and bit 4 set in the saved status,
whatever P.I is, in seven cycles (R193, R203). The whole sequence is the spec's general knowledge (log 14). -/
def Obligations.Break : Prop :=
  ∀ s : State, encodedAs .brk 0x00 1 ∧
    let ret : Word := BitVec.ofNat 16 ((s.pc.toNat + 2) % 65536)
    let s0 : State := { started s 1 7 with pc := ret }
    let s1 : State := { s0.busWrite (stack s.sp) (high ret) with sp := s.sp - 1 }
    let s2 : State := { s1.busWrite (stack (s.sp - 1)) (low ret) with sp := s.sp - 2 }
    let s3 : State := { s2.busWrite (stack (s.sp - 2)) (statusByte s.p true) with
      sp := s.sp - 3, p := { s.p with i := true } }
    let lo := s3.busRead 0xFFFE
    let hi := lo.st.busRead 0xFFFF
    exec .brk s = .next { hi.st with pc := word hi.val lo.val }

/-- RTI: the status byte is pulled into the six flags, then PC low, then PC high; nothing is added to PC (R194, R211).
The order of the pulls is the spec's general knowledge (log 14). -/
def Obligations.ReturnFromInterrupt : Prop :=
  ∀ s : State, encodedAs .rti 0x40 1 ∧
    let st := { started s 1 6 with sp := s.sp + 1 }.busRead (stack (s.sp + 1))
    let lo := { st.st with sp := s.sp + 2, p := statusFlags st.val }.busRead (stack (s.sp + 2))
    let hi := { lo.st with sp := s.sp + 3 }.busRead (stack (s.sp + 3))
    exec .rti s = .next { hi.st with pc := word hi.val lo.val }

/-- The byte saved for P: the six flags in their places, bit 5 one, bit 4 the argument; loading P ignores those two
bits (R38). Bits 5 and 4 are the spec's decisions D2 and D6 (log 14). -/
def Obligations.StatusByte : Prop :=
  (∀ (p : Flags) (b : Bool), p.image b = statusByte p b ∧ Flags.ofByte (p.image b) = p ∧
    digit (p.image b) 5 = true ∧ digit (p.image b) 4 = b) ∧
  ∀ v : Byte, Flags.ofByte v = statusFlags v ∧
    (Flags.ofByte v).image (digit v 4) = BitVec.ofNat 8 (v.toNat + (if digit v 5 then 0 else 32))

/-! ## Interrupts and reset -/

/-- The interrupt sequence (R205). The order of the pushes and bits 5 and 4 are the spec's own (log 14); that no
earlier mask is seen after the sequence is log 11's. -/
def Obligations.InterruptSequence : Prop :=
  ∀ (s : State) (vector : Word) (b : Bool),
    let s1 : State := { s.busWrite (stack s.sp) (high s.pc) with sp := s.sp - 1 }
    let s2 : State := { s1.busWrite (stack (s.sp - 1)) (low s.pc) with sp := s.sp - 2 }
    let s3 : State := { s2.busWrite (stack (s.sp - 2)) (statusByte s.p b) with
      sp := s.sp - 3, p := { s.p with i := true } }
    let lo := s3.busRead vector
    let hi := lo.st.busRead (vector + 1)
    s.interrupt vector b = { hi.st with pc := word hi.val lo.val, priorMask := none }

/-- The frame the interrupt sequence leaves, with RAM under it, the vector in memory and no RDY halt: PC high, PC low
and the status byte, at falling addresses of the stack page; on entry bit 4 of the byte one above S tells a BRK from
an interrupt, bit 5 is 1, and every other byte of memory is as before (R205, R215, R34, R35). The frame's layout is
the spec's own (log 14). -/
def Obligations.InterruptFrame : Prop :=
  ∀ (s : State) (vector : Word) (b : Bool), s.Inv → s.notHeld → frameInRam s → vectorInMemory s vector →
    let t := s.interrupt vector b
    t.peek (stack s.sp) = high s.pc ∧ t.peek (stack (s.sp - 1)) = low s.pc ∧
    t.peek (stack (t.sp + 1)) = statusByte s.p b ∧
    digit (t.peek (stack (t.sp + 1))) 4 = b ∧ digit (t.peek (stack (t.sp + 1))) 5 = true ∧
    ∀ a : Word, s.cellAt a ≠ s.cellAt (stack s.sp) → s.cellAt a ≠ s.cellAt (stack (s.sp - 1)) →
      s.cellAt a ≠ s.cellAt (stack (s.sp - 2)) → t.peek a = s.peek a

/-- RTI undoes the interrupt sequence: PC, S, the six flags with I and D among them, A, X and Y are as at the moment
of the interrupt (R211, R194). The order of the pulls is the spec's general knowledge (log 14). -/
def Obligations.ReturnUndoesInterrupt : Prop :=
  ∀ (s : State) (vector : Word) (b : Bool), s.Inv → s.notHeld → frameInRam s → vectorInMemory s vector →
    ∃ u, exec .rti (s.interrupt vector b) = .next u ∧ u.pc = s.pc ∧ u.sp = s.sp ∧ u.p = s.p ∧ u.a = s.a ∧ u.x = s.x ∧
      u.y = s.y

/-- The step at a boundary, in this order: the platform's devices may have moved by themselves; reset; then S.O. and
NMI edges are taken in; then a pending NMI through 0xFFFA; then an unmasked IRQ through 0xFFFE, whose line a device of
the platform or something else holds low; each sequence in seven cycles; else one instruction is fetched and executed;
and the step ends with the time that has passed for the devices, or with the reset that cut it short (R204, R207,
R217, R218, R258, R370). The priority is the spec's decision D14 (log 16), the seven cycles its general knowledge (log
12), the devices' table of requests and clock log 27's. -/
def Obligations.BoundaryOrder : Prop :=
  ∀ s : State,
    (∀ draw, (due s).res = some draw → step s = ended s (.next ((arrived s).resetSequence draw))) ∧
    ((due s).res = none →
      let t := sampled s
      step s = ended s (
        if t.nmiPending then
          .next ({ t with nmiPending := false, cycles := t.cycles + 7 }.interrupt 0xFFFA false)
        else if irqTaken s then .next ({ t with cycles := t.cycles + 7 }.interrupt 0xFFFE false)
        else
          match t.fetch with
          | .undefinedOpcode op => .fault (.undefinedOpcode op)
          | .cutShort u => .next u
          | .instr i u => exec i u))

/-- A pin a part does not have is never asserted, and a part without RDY is never halted (R8, R3; 92_eei_decisions.md
D3). That an absent input is never asserted is the spec's decision D3. -/
def Obligations.AbsentPins : Prop :=
  ∀ s : State,
    (∀ (inp : BoundaryInputs) (rest : List BoundaryInputs),
      ({ s with inputs := inp :: rest } : State).poll =
        ({ s with inputs := seenBy s.cfg.part inp :: rest } : State).poll) ∧
    (s.cfg.part ∉ rdyParts → ∀ (addr : Word) (halts : List Halt),
      ({ s with halts := halts } : State).busRead addr =
        { val := (s.busRead addr).val, st := { (s.busRead addr).st with halts := halts } })

/-- An NMI is cleared by being served, and no NMI is pending afterwards unless a new edge comes (R213, R41). That
serving clears it is the spec's general knowledge in R41. -/
def Obligations.NmiServedOnce : Prop :=
  ∀ s t : State, step s = .next t →
    ((due s).res = none → (sampled s).nmiPending = true → t.nmiPending = false) ∧
    (s.nmiPending = false → (due s).nmiEdge = false → t.nmiPending = false)

/-- Which P.I masks an IRQ at the next boundary: under `delayed`, after CLI, SEI or PLP, the one from before the
instruction; otherwise the one the instruction left (R208). The value delayed is the spec's general knowledge. -/
def Obligations.MaskSampling : Prop :=
  ∀ (i : Instr) (s : State), ∃ t, exec i s = .next t ∧
    t.maskSeen =
      if s.cfg.intISample = .delayed ∧ i.mnemonic ∈ [Mnemonic.cli, .sei, .plp] then s.p.i else t.p.i

/-- The reset sequence: I is 1, no NMI is pending, the other registers and flags are the draw's, PC is the word at
0xFFFC read low byte first with no RDY halt, and nothing is written, so memory is as before unless a device at the
vector changes it (R240, R241, R243). RES falling in the middle of a step, whatever the step was doing, ends it in
that state: nothing is saved, and a step whose first access RES forestalls stores nothing (R217). Its eight cycles are
log 12. That nothing stays pending is D12, that RDY does not hold the reads is log 10, that no earlier mask is seen
after the sequence is log 11, that RES falls after a count of accesses is log 21. -/
def Obligations.ResetSequence : Prop :=
  (∀ (s : State) (w : ResetDraw),
    let s1 : State := { s with
      a := w.a, x := w.x, y := w.y, sp := w.s
      p := { n := w.n, v := w.v, d := w.d, i := true, z := w.z, c := w.c }, nmiPending := false, priorMask := none }
    let lo := s1.processorRead 0xFFFC
    let hi := lo.st.processorRead 0xFFFD
    s.resetSequence w = { hi.st with pc := word hi.val lo.val, cycles := s.cycles + 8 } ∧
      (s.devicesPassive ∨ vectorInMemory s 0xFFFC → (s.resetSequence w).mem = s.mem)) ∧
  ∀ s : State,
    (∀ (last : ResetCut) (t : State), (due s).cuts.getLast? = some last → step s = .next t →
      t.a = last.draw.a ∧ t.x = last.draw.x ∧ t.y = last.draw.y ∧ t.sp = last.draw.s ∧
      t.p = { n := last.draw.n, v := last.draw.v, d := last.draw.d, i := true, z := last.draw.z, c := last.draw.c } ∧
      t.nmiPending = false ∧ t.priorMask = none ∧ t.inputs = s.inputs.tail ∧ t.cfg = s.cfg ∧ t.resPin = .high) ∧
    ∀ (first : ResetCut) (rest : List ResetCut), (due s).cuts = first :: rest → first.after = 0 →
      ∃ t, step s = .next t ∧ (s.undisturbed → t.mem = s.mem)

/-- State.reset: PC is the word at the reset vector, I is 1, no NMI is pending (R47). The zeros in the other registers and
flags are the model's choice (log 2), the empty memory is too (log 1), and so are the empty
schedules of inputs (log 4), of halts (log 5) and of the devices' moves with their state 0 (log 8); that RES is
high is how State.reset is meant (log 21). -/
def Obligations.StateAfterReset : Prop :=
  let s := State.reset
  s.pc = word (s.peek 0xFFFD) (s.peek 0xFFFC) ∧ s.p.i = true ∧ s.nmiPending = false ∧
  s.a = 0 ∧ s.x = 0 ∧ s.y = 0 ∧ s.sp = 0 ∧ s.p = { n := false, v := false, d := false, i := true, z := false, c := false } ∧
  s.mem = [] ∧ s.inputs = [] ∧ s.halts = [] ∧ s.plat = { state := 0, moves := [] } ∧ s.resPin = .high

/-! ## Invariants and whole-machine rules -/

/-- Every step keeps memory in its canonical form with every cell at a location the platform has, and changes nothing
of the configuration (R52, R55); RES is high at the boundary that follows (log 21). The form of memory is the model's
own. -/
def Obligations.StepKeepsInvariant : Prop :=
  ∀ s t : State, s.Inv → step s = .next t → t.Inv ∧ t.cfg = s.cfg ∧ t.resPin = .high

/-- The state after reset meets the invariant. The form of memory is the model's own. -/
def Obligations.ResetMeetsInvariant : Prop := State.reset.Inv

/-- No instruction changes a register or flag that R48's table does not list for it; an instruction that does not transfer
control leaves PC at the next instruction; none touches nmi_pending, the inputs or the configuration (R48). -/
def Obligations.OnlyListedRegistersChange : Prop :=
  ∀ (i : Instr) (s : State), ∃ t, exec i s = .next t ∧
    (writesA i = false → t.a = s.a) ∧
    (i.mnemonic ∉ [Mnemonic.ldx, .tax, .tsx, .inx, .dex] → t.x = s.x) ∧
    (i.mnemonic ∉ [Mnemonic.ldy, .tay, .iny, .dey] → t.y = s.y) ∧
    (i.mnemonic ∉ [Mnemonic.txs, .pha, .php, .pla, .plp, .jsr, .rts, .brk, .rti] → t.sp = s.sp) ∧
    (writesNZ i = false → t.p.n = s.p.n ∧ t.p.z = s.p.z) ∧
    (writesC i = false → t.p.c = s.p.c) ∧
    (i.mnemonic ∉ [Mnemonic.adc, .sbc, .bit, .clv, .plp, .rti] → t.p.v = s.p.v) ∧
    (i.mnemonic ∉ [Mnemonic.cld, .sed, .plp, .rti] → t.p.d = s.p.d) ∧
    (i.mnemonic ∉ [Mnemonic.cli, .sei, .plp, .brk, .rti] → t.p.i = s.p.i) ∧
    (transfers i = false → t.pc = BitVec.ofNat 16 ((s.pc.toNat + instrLength i) % 65536)) ∧
    t.nmiPending = s.nmiPending ∧ t.inputs = s.inputs ∧ t.cfg = s.cfg

/-- While no other bus master and no device changes memory, an instruction changes memory only at the bytes it stores to,
whose addresses are computed by the functions its meaning uses; an instruction that stores nothing changes no byte (R48, R63). -/
def Obligations.MemoryChangesOnlyWhereStored : Prop :=
  ∀ (i : Instr) (s : State), s.undisturbed → ∃ t, exec i s = .next t ∧
    ∀ addr : Word, (∀ w ∈ storedAt i s, s.cellAt addr ≠ s.cellAt w) → t.peek addr = s.peek addr

/-- P.D is read by ADC and SBC only: an instruction that neither writes D nor saves P does the same with the other value
of D and leaves that D alone; CLD, SED, PLP and RTI, which write D, end in the very same state whatever D was (R32). -/
def Obligations.OnlyArithmeticReadsD : Prop :=
  ∀ (i : Instr) (s : State) (d : Bool),
    (i.mnemonic ∉ [Mnemonic.adc, .sbc, .php, .brk, .plp, .rti, .cld, .sed] →
      ∃ t, exec i s = .next t ∧ exec i (withD s d) = .next (withD t d)) ∧
    (i.mnemonic ∈ [Mnemonic.plp, .rti, .cld, .sed] → ∃ t, exec i s = .next t ∧ exec i (withD s d) = .next t)

/-- A JMP to its own address in plain memory, with nothing asserted, no RDY halt and devices that neither request an interrupt
nor move with the clock, is never left: after any number of steps
every register, flag and memory byte is as before (R230, R169). -/
def Obligations.JumpToSelfNeverEnds : Prop :=
  ∀ (s : State) (k : Nat), s.quiet → s.nmiPending = false → holdsInstruction s (.jmpAbs s.pc) →
    ∃ t, stepTimes k s = .next t ∧
      t = { s with cycles := s.cycles + 3 * k, priorMask := if k = 0 then s.priorMask else none }

end
end

