-- ==== Sys2Proof/Laws/Bits.lean ====
section
/-! SUPPORT. Laws of the byte-order helpers and of packing and unpacking P. -/

namespace Sys2Proof.Machine

@[simp] theorem mkWord_hi8_lo8 (w : Word) : mkWord (hi8 w) (lo8 w) = w := by
  apply BitVec.eq_of_toNat_eq
  simp only [mkWord, hi8, lo8, BitVec.toNat_append, BitVec.extractLsb'_toNat, Nat.shiftLeft_eq]
  rw [← Nat.shiftLeft_eq, ← Nat.shiftLeft_add_eq_or_of_lt (Nat.mod_lt _ (by decide)), Nat.shiftLeft_eq,
    Nat.shiftRight_eq_div_pow]
  have := w.isLt
  omega

/-- A word as a number. -/
theorem mkWord_toNat (hi lo : Byte) : (mkWord hi lo).toNat = hi.toNat * 256 + lo.toNat := by
  simp only [mkWord, BitVec.toNat_append]
  rw [← Nat.shiftLeft_add_eq_or_of_lt lo.isLt, Nat.shiftLeft_eq]

theorem hi8_toNat (w : Word) : (hi8 w).toNat = w.toNat / 256 := by
  simp only [hi8, BitVec.extractLsb'_toNat, Nat.shiftRight_eq_div_pow]
  have := w.isLt
  omega

theorem lo8_toNat (w : Word) : (lo8 w).toNat = w.toNat % 256 := by
  simp only [lo8, BitVec.extractLsb'_toNat, Nat.shiftRight_zero]

@[simp] theorem hi8_mkWord (hi lo : Byte) : hi8 (mkWord hi lo) = hi := by
  apply BitVec.eq_of_toNat_eq
  have := lo.isLt
  rw [hi8_toNat, mkWord_toNat]
  omega

@[simp] theorem lo8_mkWord (hi lo : Byte) : lo8 (mkWord hi lo) = lo := by
  apply BitVec.eq_of_toNat_eq
  have := lo.isLt
  rw [lo8_toNat, mkWord_toNat]
  omega

theorem zext_toNat (v : Byte) : (zext v).toNat = v.toNat := by
  have := v.isLt
  simp only [zext, BitVec.toNat_setWidth]
  omega

/-- The six flags survive packing and unpacking, whatever B is (R38). -/
@[simp] theorem Flags.ofByte_image (p : Flags) (b : Bool) : Flags.ofByte (p.image b) = p := by
  rcases p with ⟨n, v, d, i, z, c⟩
  cases n <;> cases v <;> cases d <;> cases i <;> cases z <;> cases c <;> cases b <;> rfl

/-- Bits 5 and 4 of a saved status byte (R34, R35). -/
theorem Flags.image_bits (p : Flags) (b : Bool) : bit (p.image b) 5 = true ∧ bit (p.image b) 4 = b := by
  rcases p with ⟨n, v, d, i, z, c⟩
  cases n <;> cases v <;> cases d <;> cases i <;> cases z <;> cases c <;> cases b <;> exact ⟨rfl, rfl⟩

end Sys2Proof.Machine
end

