-- ==== Sys2Proof/Laws/Memory.lean ====
section
/-! SUPPORT. Laws of memory: what a read sees after a write, and that a write keeps the canonical form. -/

namespace Sys2Proof.Machine

theorem Memory.read_of_lt (m : Memory) (k : Nat) (h : ∀ c ∈ m, k < c.1) : Memory.read m k = Memory.unlisted := by
  induction m with
  | nil => rfl
  | cons c m ih =>
    have hk : c.1 ≠ k := by have := h c (by simp); omega
    simp only [Memory.read, hk, if_false]
    exact ih fun d hd => h d (by simp [hd])

/-- A write leaves every other address alone. -/
theorem Memory.read_write_other (m : Memory) (k j : Nat) (v : Byte) (h : j ≠ k) :
    Memory.read (Memory.write m k v) j = Memory.read m j := by
  induction m with
  | nil =>
    simp only [Memory.write]
    split
    · rfl
    · simp [Memory.read, Ne.symm h]
  | cons c m ih =>
    simp only [Memory.write]
    split
    · split
      · rfl
      · simp [Memory.read, Ne.symm h]
    · split
      · rename_i hk
        subst hk
        split
        · simp [Memory.read, Ne.symm h]
        · simp [Memory.read, Ne.symm h]
      · simp only [Memory.read, ih]

/-- A read after a write to the same address gives the byte written. -/
theorem Memory.read_write_same (m : Memory) (k : Nat) (v : Byte) (hm : Memory.wf m) :
    Memory.read (Memory.write m k v) k = v := by
  induction m with
  | nil =>
    simp only [Memory.write]
    split
    · rename_i hv
      exact hv.symm
    · simp [Memory.read]
  | cons c m ih =>
    have htail : ∀ d ∈ m, c.1 < d.1 := fun _ hd => List.rel_of_pairwise_cons hm.1 hd
    have hwf : Memory.wf m := ⟨(List.pairwise_cons.1 hm.1).2, fun d hd => hm.2 d (by simp [hd])⟩
    simp only [Memory.write]
    split
    · rename_i hlt
      split
      · rename_i hv
        rw [hv]
        refine Memory.read_of_lt _ _ fun d hd => ?_
        rcases List.mem_cons.1 hd with rfl | hd
        · exact hlt
        · have := htail d hd; omega
      · simp [Memory.read]
    · split
      · rename_i hk
        split
        · rename_i hv
          rw [hv]
          exact Memory.read_of_lt _ _ fun d hd => by have := htail d hd; omega
        · simp [Memory.read]
      · rename_i hk
        simp only [Memory.read, Ne.symm hk, if_false]
        exact ih hwf

/-- Every cell after a write is an old cell or the one written. -/
theorem Memory.mem_write (m : Memory) (k : Nat) (v : Byte) (c : Host.Cell) (h : c ∈ Memory.write m k v) :
    c ∈ m ∨ c = (k, v) := by
  induction m with
  | nil =>
    simp only [Memory.write] at h
    split at h
    · simp at h
    · simp at h; exact .inr h
  | cons d m ih =>
    simp only [Memory.write] at h
    split at h
    · split at h
      · exact .inl h
      · rcases List.mem_cons.1 h with h | h
        · exact .inr h
        · exact .inl h
    · split at h
      · split at h
        · exact .inl (by simp [h])
        · rcases List.mem_cons.1 h with h | h
          · exact .inr h
          · exact .inl (by simp [h])
      · rcases List.mem_cons.1 h with h | h
        · exact .inl (by simp [h])
        · rcases ih h with h | h
          · exact .inl (by simp [h])
          · exact .inr h

/-- A write keeps the canonical form. -/
theorem Memory.write_wf (m : Memory) (k : Nat) (v : Byte) (hm : Memory.wf m) : Memory.wf (Memory.write m k v) := by
  induction m with
  | nil =>
    simp only [Memory.write]
    split
    · exact hm
    · rename_i hv
      exact ⟨by simp, by simp [hv]⟩
  | cons c m ih =>
    have htail : ∀ d ∈ m, c.1 < d.1 := fun _ hd => List.rel_of_pairwise_cons hm.1 hd
    have hwf : Memory.wf m := ⟨(List.pairwise_cons.1 hm.1).2, fun d hd => hm.2 d (by simp [hd])⟩
    simp only [Memory.write]
    split
    · rename_i hlt
      split
      · exact hm
      · rename_i hv
        refine ⟨List.pairwise_cons.2 ⟨fun d hd => ?_, hm.1⟩, fun d hd => ?_⟩
        · rcases List.mem_cons.1 hd with rfl | hd
          · exact hlt
          · exact lt_trans hlt (htail d hd)
        · rcases List.mem_cons.1 hd with rfl | hd
          · exact hv
          · exact hm.2 d hd
    · split
      · rename_i hk
        split
        · exact hwf
        · rename_i hv
          refine ⟨List.pairwise_cons.2 ⟨fun d hd => ?_, hwf.1⟩, fun d hd => ?_⟩
          · have := htail d hd
            show k < d.1
            omega
          · rcases List.mem_cons.1 hd with rfl | hd
            · exact hv
            · exact hwf.2 d hd
      · rename_i hlt hk
        have hcm := ih hwf
        refine ⟨List.pairwise_cons.2 ⟨fun d hd => ?_, hcm.1⟩, fun d hd => ?_⟩
        · rcases Memory.mem_write m k v d hd with hd | rfl
          · exact htail d hd
          · show c.1 < k
            omega
        · rcases List.mem_cons.1 hd with rfl | hd
          · exact hm.2 _ (by simp)
          · exact hcm.2 d hd

end Sys2Proof.Machine
end

