-- ==== Sys2Proof/Laws/State.lean ====
section
/-! SUPPORT. One lemma per field per register write of Machine/Ops.lean, true by rfl, so that no proof unfolds a record
update. -/

namespace Sys2Proof.Machine

@[simp] theorem State.setA_a (s : State) (v : Byte) : (s.setA v).a = v := rfl
@[simp] theorem State.setA_x (s : State) (v : Byte) : (s.setA v).x = s.x := rfl
@[simp] theorem State.setA_y (s : State) (v : Byte) : (s.setA v).y = s.y := rfl
@[simp] theorem State.setA_sp (s : State) (v : Byte) : (s.setA v).sp = s.sp := rfl
@[simp] theorem State.setA_pc (s : State) (v : Byte) : (s.setA v).pc = s.pc := rfl
@[simp] theorem State.setA_p (s : State) (v : Byte) : (s.setA v).p = s.p := rfl
@[simp] theorem State.setA_nmiPending (s : State) (v : Byte) : (s.setA v).nmiPending = s.nmiPending := rfl
@[simp] theorem State.setA_priorMask (s : State) (v : Byte) : (s.setA v).priorMask = s.priorMask := rfl
@[simp] theorem State.setA_mem (s : State) (v : Byte) : (s.setA v).mem = s.mem := rfl
@[simp] theorem State.setA_plat (s : State) (v : Byte) : (s.setA v).plat = s.plat := rfl
@[simp] theorem State.setA_cycles (s : State) (v : Byte) : (s.setA v).cycles = s.cycles := rfl
@[simp] theorem State.setA_draws (s : State) (v : Byte) : (s.setA v).draws = s.draws := rfl
@[simp] theorem State.setA_inputs (s : State) (v : Byte) : (s.setA v).inputs = s.inputs := rfl
@[simp] theorem State.setA_halts (s : State) (v : Byte) : (s.setA v).halts = s.halts := rfl
@[simp] theorem State.setA_resPin (s : State) (v : Byte) : (s.setA v).resPin = s.resPin := rfl
@[simp] theorem State.setA_cfg (s : State) (v : Byte) : (s.setA v).cfg = s.cfg := rfl

@[simp] theorem State.setX_a (s : State) (v : Byte) : (s.setX v).a = s.a := rfl
@[simp] theorem State.setX_x (s : State) (v : Byte) : (s.setX v).x = v := rfl
@[simp] theorem State.setX_y (s : State) (v : Byte) : (s.setX v).y = s.y := rfl
@[simp] theorem State.setX_sp (s : State) (v : Byte) : (s.setX v).sp = s.sp := rfl
@[simp] theorem State.setX_pc (s : State) (v : Byte) : (s.setX v).pc = s.pc := rfl
@[simp] theorem State.setX_p (s : State) (v : Byte) : (s.setX v).p = s.p := rfl
@[simp] theorem State.setX_nmiPending (s : State) (v : Byte) : (s.setX v).nmiPending = s.nmiPending := rfl
@[simp] theorem State.setX_priorMask (s : State) (v : Byte) : (s.setX v).priorMask = s.priorMask := rfl
@[simp] theorem State.setX_mem (s : State) (v : Byte) : (s.setX v).mem = s.mem := rfl
@[simp] theorem State.setX_plat (s : State) (v : Byte) : (s.setX v).plat = s.plat := rfl
@[simp] theorem State.setX_cycles (s : State) (v : Byte) : (s.setX v).cycles = s.cycles := rfl
@[simp] theorem State.setX_draws (s : State) (v : Byte) : (s.setX v).draws = s.draws := rfl
@[simp] theorem State.setX_inputs (s : State) (v : Byte) : (s.setX v).inputs = s.inputs := rfl
@[simp] theorem State.setX_halts (s : State) (v : Byte) : (s.setX v).halts = s.halts := rfl
@[simp] theorem State.setX_resPin (s : State) (v : Byte) : (s.setX v).resPin = s.resPin := rfl
@[simp] theorem State.setX_cfg (s : State) (v : Byte) : (s.setX v).cfg = s.cfg := rfl

@[simp] theorem State.setY_a (s : State) (v : Byte) : (s.setY v).a = s.a := rfl
@[simp] theorem State.setY_x (s : State) (v : Byte) : (s.setY v).x = s.x := rfl
@[simp] theorem State.setY_y (s : State) (v : Byte) : (s.setY v).y = v := rfl
@[simp] theorem State.setY_sp (s : State) (v : Byte) : (s.setY v).sp = s.sp := rfl
@[simp] theorem State.setY_pc (s : State) (v : Byte) : (s.setY v).pc = s.pc := rfl
@[simp] theorem State.setY_p (s : State) (v : Byte) : (s.setY v).p = s.p := rfl
@[simp] theorem State.setY_nmiPending (s : State) (v : Byte) : (s.setY v).nmiPending = s.nmiPending := rfl
@[simp] theorem State.setY_priorMask (s : State) (v : Byte) : (s.setY v).priorMask = s.priorMask := rfl
@[simp] theorem State.setY_mem (s : State) (v : Byte) : (s.setY v).mem = s.mem := rfl
@[simp] theorem State.setY_plat (s : State) (v : Byte) : (s.setY v).plat = s.plat := rfl
@[simp] theorem State.setY_cycles (s : State) (v : Byte) : (s.setY v).cycles = s.cycles := rfl
@[simp] theorem State.setY_draws (s : State) (v : Byte) : (s.setY v).draws = s.draws := rfl
@[simp] theorem State.setY_inputs (s : State) (v : Byte) : (s.setY v).inputs = s.inputs := rfl
@[simp] theorem State.setY_halts (s : State) (v : Byte) : (s.setY v).halts = s.halts := rfl
@[simp] theorem State.setY_resPin (s : State) (v : Byte) : (s.setY v).resPin = s.resPin := rfl
@[simp] theorem State.setY_cfg (s : State) (v : Byte) : (s.setY v).cfg = s.cfg := rfl

@[simp] theorem State.setSp_a (s : State) (v : Byte) : (s.setSp v).a = s.a := rfl
@[simp] theorem State.setSp_x (s : State) (v : Byte) : (s.setSp v).x = s.x := rfl
@[simp] theorem State.setSp_y (s : State) (v : Byte) : (s.setSp v).y = s.y := rfl
@[simp] theorem State.setSp_sp (s : State) (v : Byte) : (s.setSp v).sp = v := rfl
@[simp] theorem State.setSp_pc (s : State) (v : Byte) : (s.setSp v).pc = s.pc := rfl
@[simp] theorem State.setSp_p (s : State) (v : Byte) : (s.setSp v).p = s.p := rfl
@[simp] theorem State.setSp_nmiPending (s : State) (v : Byte) : (s.setSp v).nmiPending = s.nmiPending := rfl
@[simp] theorem State.setSp_priorMask (s : State) (v : Byte) : (s.setSp v).priorMask = s.priorMask := rfl
@[simp] theorem State.setSp_mem (s : State) (v : Byte) : (s.setSp v).mem = s.mem := rfl
@[simp] theorem State.setSp_plat (s : State) (v : Byte) : (s.setSp v).plat = s.plat := rfl
@[simp] theorem State.setSp_cycles (s : State) (v : Byte) : (s.setSp v).cycles = s.cycles := rfl
@[simp] theorem State.setSp_draws (s : State) (v : Byte) : (s.setSp v).draws = s.draws := rfl
@[simp] theorem State.setSp_inputs (s : State) (v : Byte) : (s.setSp v).inputs = s.inputs := rfl
@[simp] theorem State.setSp_halts (s : State) (v : Byte) : (s.setSp v).halts = s.halts := rfl
@[simp] theorem State.setSp_resPin (s : State) (v : Byte) : (s.setSp v).resPin = s.resPin := rfl
@[simp] theorem State.setSp_cfg (s : State) (v : Byte) : (s.setSp v).cfg = s.cfg := rfl

@[simp] theorem State.setPc_a (s : State) (w : Word) : (s.setPc w).a = s.a := rfl
@[simp] theorem State.setPc_x (s : State) (w : Word) : (s.setPc w).x = s.x := rfl
@[simp] theorem State.setPc_y (s : State) (w : Word) : (s.setPc w).y = s.y := rfl
@[simp] theorem State.setPc_sp (s : State) (w : Word) : (s.setPc w).sp = s.sp := rfl
@[simp] theorem State.setPc_pc (s : State) (w : Word) : (s.setPc w).pc = w := rfl
@[simp] theorem State.setPc_p (s : State) (w : Word) : (s.setPc w).p = s.p := rfl
@[simp] theorem State.setPc_nmiPending (s : State) (w : Word) : (s.setPc w).nmiPending = s.nmiPending := rfl
@[simp] theorem State.setPc_priorMask (s : State) (w : Word) : (s.setPc w).priorMask = s.priorMask := rfl
@[simp] theorem State.setPc_mem (s : State) (w : Word) : (s.setPc w).mem = s.mem := rfl
@[simp] theorem State.setPc_plat (s : State) (w : Word) : (s.setPc w).plat = s.plat := rfl
@[simp] theorem State.setPc_cycles (s : State) (w : Word) : (s.setPc w).cycles = s.cycles := rfl
@[simp] theorem State.setPc_draws (s : State) (w : Word) : (s.setPc w).draws = s.draws := rfl
@[simp] theorem State.setPc_inputs (s : State) (w : Word) : (s.setPc w).inputs = s.inputs := rfl
@[simp] theorem State.setPc_halts (s : State) (w : Word) : (s.setPc w).halts = s.halts := rfl
@[simp] theorem State.setPc_resPin (s : State) (w : Word) : (s.setPc w).resPin = s.resPin := rfl
@[simp] theorem State.setPc_cfg (s : State) (w : Word) : (s.setPc w).cfg = s.cfg := rfl

@[simp] theorem State.setP_a (s : State) (f : Flags) : (s.setP f).a = s.a := rfl
@[simp] theorem State.setP_x (s : State) (f : Flags) : (s.setP f).x = s.x := rfl
@[simp] theorem State.setP_y (s : State) (f : Flags) : (s.setP f).y = s.y := rfl
@[simp] theorem State.setP_sp (s : State) (f : Flags) : (s.setP f).sp = s.sp := rfl
@[simp] theorem State.setP_pc (s : State) (f : Flags) : (s.setP f).pc = s.pc := rfl
@[simp] theorem State.setP_p (s : State) (f : Flags) : (s.setP f).p = f := rfl
@[simp] theorem State.setP_nmiPending (s : State) (f : Flags) : (s.setP f).nmiPending = s.nmiPending := rfl
@[simp] theorem State.setP_priorMask (s : State) (f : Flags) : (s.setP f).priorMask = s.priorMask := rfl
@[simp] theorem State.setP_mem (s : State) (f : Flags) : (s.setP f).mem = s.mem := rfl
@[simp] theorem State.setP_plat (s : State) (f : Flags) : (s.setP f).plat = s.plat := rfl
@[simp] theorem State.setP_cycles (s : State) (f : Flags) : (s.setP f).cycles = s.cycles := rfl
@[simp] theorem State.setP_draws (s : State) (f : Flags) : (s.setP f).draws = s.draws := rfl
@[simp] theorem State.setP_inputs (s : State) (f : Flags) : (s.setP f).inputs = s.inputs := rfl
@[simp] theorem State.setP_halts (s : State) (f : Flags) : (s.setP f).halts = s.halts := rfl
@[simp] theorem State.setP_resPin (s : State) (f : Flags) : (s.setP f).resPin = s.resPin := rfl
@[simp] theorem State.setP_cfg (s : State) (f : Flags) : (s.setP f).cfg = s.cfg := rfl

@[simp] theorem State.setNmiPending_a (s : State) (b : Bool) : (s.setNmiPending b).a = s.a := rfl
@[simp] theorem State.setNmiPending_x (s : State) (b : Bool) : (s.setNmiPending b).x = s.x := rfl
@[simp] theorem State.setNmiPending_y (s : State) (b : Bool) : (s.setNmiPending b).y = s.y := rfl
@[simp] theorem State.setNmiPending_sp (s : State) (b : Bool) : (s.setNmiPending b).sp = s.sp := rfl
@[simp] theorem State.setNmiPending_pc (s : State) (b : Bool) : (s.setNmiPending b).pc = s.pc := rfl
@[simp] theorem State.setNmiPending_p (s : State) (b : Bool) : (s.setNmiPending b).p = s.p := rfl
@[simp] theorem State.setNmiPending_nmiPending (s : State) (b : Bool) : (s.setNmiPending b).nmiPending = b := rfl
@[simp] theorem State.setNmiPending_priorMask (s : State) (b : Bool) : (s.setNmiPending b).priorMask = s.priorMask := rfl
@[simp] theorem State.setNmiPending_mem (s : State) (b : Bool) : (s.setNmiPending b).mem = s.mem := rfl
@[simp] theorem State.setNmiPending_plat (s : State) (b : Bool) : (s.setNmiPending b).plat = s.plat := rfl
@[simp] theorem State.setNmiPending_cycles (s : State) (b : Bool) : (s.setNmiPending b).cycles = s.cycles := rfl
@[simp] theorem State.setNmiPending_draws (s : State) (b : Bool) : (s.setNmiPending b).draws = s.draws := rfl
@[simp] theorem State.setNmiPending_inputs (s : State) (b : Bool) : (s.setNmiPending b).inputs = s.inputs := rfl
@[simp] theorem State.setNmiPending_halts (s : State) (b : Bool) : (s.setNmiPending b).halts = s.halts := rfl
@[simp] theorem State.setNmiPending_resPin (s : State) (b : Bool) : (s.setNmiPending b).resPin = s.resPin := rfl
@[simp] theorem State.setNmiPending_cfg (s : State) (b : Bool) : (s.setNmiPending b).cfg = s.cfg := rfl

@[simp] theorem State.setPriorMask_a (s : State) (m : Option Bool) : (s.setPriorMask m).a = s.a := rfl
@[simp] theorem State.setPriorMask_x (s : State) (m : Option Bool) : (s.setPriorMask m).x = s.x := rfl
@[simp] theorem State.setPriorMask_y (s : State) (m : Option Bool) : (s.setPriorMask m).y = s.y := rfl
@[simp] theorem State.setPriorMask_sp (s : State) (m : Option Bool) : (s.setPriorMask m).sp = s.sp := rfl
@[simp] theorem State.setPriorMask_pc (s : State) (m : Option Bool) : (s.setPriorMask m).pc = s.pc := rfl
@[simp] theorem State.setPriorMask_p (s : State) (m : Option Bool) : (s.setPriorMask m).p = s.p := rfl
@[simp] theorem State.setPriorMask_nmiPending (s : State) (m : Option Bool) : (s.setPriorMask m).nmiPending = s.nmiPending := rfl
@[simp] theorem State.setPriorMask_priorMask (s : State) (m : Option Bool) : (s.setPriorMask m).priorMask = m := rfl
@[simp] theorem State.setPriorMask_mem (s : State) (m : Option Bool) : (s.setPriorMask m).mem = s.mem := rfl
@[simp] theorem State.setPriorMask_plat (s : State) (m : Option Bool) : (s.setPriorMask m).plat = s.plat := rfl
@[simp] theorem State.setPriorMask_cycles (s : State) (m : Option Bool) : (s.setPriorMask m).cycles = s.cycles := rfl
@[simp] theorem State.setPriorMask_draws (s : State) (m : Option Bool) : (s.setPriorMask m).draws = s.draws := rfl
@[simp] theorem State.setPriorMask_inputs (s : State) (m : Option Bool) : (s.setPriorMask m).inputs = s.inputs := rfl
@[simp] theorem State.setPriorMask_halts (s : State) (m : Option Bool) : (s.setPriorMask m).halts = s.halts := rfl
@[simp] theorem State.setPriorMask_resPin (s : State) (m : Option Bool) : (s.setPriorMask m).resPin = s.resPin := rfl
@[simp] theorem State.setPriorMask_cfg (s : State) (m : Option Bool) : (s.setPriorMask m).cfg = s.cfg := rfl

@[simp] theorem State.setMem_a (s : State) (m : Memory) : (s.setMem m).a = s.a := rfl
@[simp] theorem State.setMem_x (s : State) (m : Memory) : (s.setMem m).x = s.x := rfl
@[simp] theorem State.setMem_y (s : State) (m : Memory) : (s.setMem m).y = s.y := rfl
@[simp] theorem State.setMem_sp (s : State) (m : Memory) : (s.setMem m).sp = s.sp := rfl
@[simp] theorem State.setMem_pc (s : State) (m : Memory) : (s.setMem m).pc = s.pc := rfl
@[simp] theorem State.setMem_p (s : State) (m : Memory) : (s.setMem m).p = s.p := rfl
@[simp] theorem State.setMem_nmiPending (s : State) (m : Memory) : (s.setMem m).nmiPending = s.nmiPending := rfl
@[simp] theorem State.setMem_priorMask (s : State) (m : Memory) : (s.setMem m).priorMask = s.priorMask := rfl
@[simp] theorem State.setMem_mem (s : State) (m : Memory) : (s.setMem m).mem = m := rfl
@[simp] theorem State.setMem_plat (s : State) (m : Memory) : (s.setMem m).plat = s.plat := rfl
@[simp] theorem State.setMem_cycles (s : State) (m : Memory) : (s.setMem m).cycles = s.cycles := rfl
@[simp] theorem State.setMem_draws (s : State) (m : Memory) : (s.setMem m).draws = s.draws := rfl
@[simp] theorem State.setMem_inputs (s : State) (m : Memory) : (s.setMem m).inputs = s.inputs := rfl
@[simp] theorem State.setMem_halts (s : State) (m : Memory) : (s.setMem m).halts = s.halts := rfl
@[simp] theorem State.setMem_resPin (s : State) (m : Memory) : (s.setMem m).resPin = s.resPin := rfl
@[simp] theorem State.setMem_cfg (s : State) (m : Memory) : (s.setMem m).cfg = s.cfg := rfl

@[simp] theorem State.setPlat_a (s : State) (q : Platform) : (s.setPlat q).a = s.a := rfl
@[simp] theorem State.setPlat_x (s : State) (q : Platform) : (s.setPlat q).x = s.x := rfl
@[simp] theorem State.setPlat_y (s : State) (q : Platform) : (s.setPlat q).y = s.y := rfl
@[simp] theorem State.setPlat_sp (s : State) (q : Platform) : (s.setPlat q).sp = s.sp := rfl
@[simp] theorem State.setPlat_pc (s : State) (q : Platform) : (s.setPlat q).pc = s.pc := rfl
@[simp] theorem State.setPlat_p (s : State) (q : Platform) : (s.setPlat q).p = s.p := rfl
@[simp] theorem State.setPlat_nmiPending (s : State) (q : Platform) : (s.setPlat q).nmiPending = s.nmiPending := rfl
@[simp] theorem State.setPlat_priorMask (s : State) (q : Platform) : (s.setPlat q).priorMask = s.priorMask := rfl
@[simp] theorem State.setPlat_mem (s : State) (q : Platform) : (s.setPlat q).mem = s.mem := rfl
@[simp] theorem State.setPlat_plat (s : State) (q : Platform) : (s.setPlat q).plat = q := rfl
@[simp] theorem State.setPlat_cycles (s : State) (q : Platform) : (s.setPlat q).cycles = s.cycles := rfl
@[simp] theorem State.setPlat_draws (s : State) (q : Platform) : (s.setPlat q).draws = s.draws := rfl
@[simp] theorem State.setPlat_inputs (s : State) (q : Platform) : (s.setPlat q).inputs = s.inputs := rfl
@[simp] theorem State.setPlat_halts (s : State) (q : Platform) : (s.setPlat q).halts = s.halts := rfl
@[simp] theorem State.setPlat_resPin (s : State) (q : Platform) : (s.setPlat q).resPin = s.resPin := rfl
@[simp] theorem State.setPlat_cfg (s : State) (q : Platform) : (s.setPlat q).cfg = s.cfg := rfl

@[simp] theorem State.setDraws_a (s : State) (n : Nat) : (s.setDraws n).a = s.a := rfl
@[simp] theorem State.setDraws_x (s : State) (n : Nat) : (s.setDraws n).x = s.x := rfl
@[simp] theorem State.setDraws_y (s : State) (n : Nat) : (s.setDraws n).y = s.y := rfl
@[simp] theorem State.setDraws_sp (s : State) (n : Nat) : (s.setDraws n).sp = s.sp := rfl
@[simp] theorem State.setDraws_pc (s : State) (n : Nat) : (s.setDraws n).pc = s.pc := rfl
@[simp] theorem State.setDraws_p (s : State) (n : Nat) : (s.setDraws n).p = s.p := rfl
@[simp] theorem State.setDraws_nmiPending (s : State) (n : Nat) : (s.setDraws n).nmiPending = s.nmiPending := rfl
@[simp] theorem State.setDraws_priorMask (s : State) (n : Nat) : (s.setDraws n).priorMask = s.priorMask := rfl
@[simp] theorem State.setDraws_mem (s : State) (n : Nat) : (s.setDraws n).mem = s.mem := rfl
@[simp] theorem State.setDraws_plat (s : State) (n : Nat) : (s.setDraws n).plat = s.plat := rfl
@[simp] theorem State.setDraws_cycles (s : State) (n : Nat) : (s.setDraws n).cycles = s.cycles := rfl
@[simp] theorem State.setDraws_draws (s : State) (n : Nat) : (s.setDraws n).draws = n := rfl
@[simp] theorem State.setDraws_inputs (s : State) (n : Nat) : (s.setDraws n).inputs = s.inputs := rfl
@[simp] theorem State.setDraws_halts (s : State) (n : Nat) : (s.setDraws n).halts = s.halts := rfl
@[simp] theorem State.setDraws_resPin (s : State) (n : Nat) : (s.setDraws n).resPin = s.resPin := rfl
@[simp] theorem State.setDraws_cfg (s : State) (n : Nat) : (s.setDraws n).cfg = s.cfg := rfl

@[simp] theorem State.setInputs_a (s : State) (l : List BoundaryInputs) : (s.setInputs l).a = s.a := rfl
@[simp] theorem State.setInputs_x (s : State) (l : List BoundaryInputs) : (s.setInputs l).x = s.x := rfl
@[simp] theorem State.setInputs_y (s : State) (l : List BoundaryInputs) : (s.setInputs l).y = s.y := rfl
@[simp] theorem State.setInputs_sp (s : State) (l : List BoundaryInputs) : (s.setInputs l).sp = s.sp := rfl
@[simp] theorem State.setInputs_pc (s : State) (l : List BoundaryInputs) : (s.setInputs l).pc = s.pc := rfl
@[simp] theorem State.setInputs_p (s : State) (l : List BoundaryInputs) : (s.setInputs l).p = s.p := rfl
@[simp] theorem State.setInputs_nmiPending (s : State) (l : List BoundaryInputs) : (s.setInputs l).nmiPending = s.nmiPending := rfl
@[simp] theorem State.setInputs_priorMask (s : State) (l : List BoundaryInputs) : (s.setInputs l).priorMask = s.priorMask := rfl
@[simp] theorem State.setInputs_mem (s : State) (l : List BoundaryInputs) : (s.setInputs l).mem = s.mem := rfl
@[simp] theorem State.setInputs_plat (s : State) (l : List BoundaryInputs) : (s.setInputs l).plat = s.plat := rfl
@[simp] theorem State.setInputs_cycles (s : State) (l : List BoundaryInputs) : (s.setInputs l).cycles = s.cycles := rfl
@[simp] theorem State.setInputs_draws (s : State) (l : List BoundaryInputs) : (s.setInputs l).draws = s.draws := rfl
@[simp] theorem State.setInputs_inputs (s : State) (l : List BoundaryInputs) : (s.setInputs l).inputs = l := rfl
@[simp] theorem State.setInputs_halts (s : State) (l : List BoundaryInputs) : (s.setInputs l).halts = s.halts := rfl
@[simp] theorem State.setInputs_resPin (s : State) (l : List BoundaryInputs) : (s.setInputs l).resPin = s.resPin := rfl
@[simp] theorem State.setInputs_cfg (s : State) (l : List BoundaryInputs) : (s.setInputs l).cfg = s.cfg := rfl

@[simp] theorem State.setHalts_a (s : State) (l : List Halt) : (s.setHalts l).a = s.a := rfl
@[simp] theorem State.setHalts_x (s : State) (l : List Halt) : (s.setHalts l).x = s.x := rfl
@[simp] theorem State.setHalts_y (s : State) (l : List Halt) : (s.setHalts l).y = s.y := rfl
@[simp] theorem State.setHalts_sp (s : State) (l : List Halt) : (s.setHalts l).sp = s.sp := rfl
@[simp] theorem State.setHalts_pc (s : State) (l : List Halt) : (s.setHalts l).pc = s.pc := rfl
@[simp] theorem State.setHalts_p (s : State) (l : List Halt) : (s.setHalts l).p = s.p := rfl
@[simp] theorem State.setHalts_nmiPending (s : State) (l : List Halt) : (s.setHalts l).nmiPending = s.nmiPending := rfl
@[simp] theorem State.setHalts_priorMask (s : State) (l : List Halt) : (s.setHalts l).priorMask = s.priorMask := rfl
@[simp] theorem State.setHalts_mem (s : State) (l : List Halt) : (s.setHalts l).mem = s.mem := rfl
@[simp] theorem State.setHalts_plat (s : State) (l : List Halt) : (s.setHalts l).plat = s.plat := rfl
@[simp] theorem State.setHalts_cycles (s : State) (l : List Halt) : (s.setHalts l).cycles = s.cycles := rfl
@[simp] theorem State.setHalts_draws (s : State) (l : List Halt) : (s.setHalts l).draws = s.draws := rfl
@[simp] theorem State.setHalts_inputs (s : State) (l : List Halt) : (s.setHalts l).inputs = s.inputs := rfl
@[simp] theorem State.setHalts_halts (s : State) (l : List Halt) : (s.setHalts l).halts = l := rfl
@[simp] theorem State.setHalts_resPin (s : State) (l : List Halt) : (s.setHalts l).resPin = s.resPin := rfl
@[simp] theorem State.setHalts_cfg (s : State) (l : List Halt) : (s.setHalts l).cfg = s.cfg := rfl

@[simp] theorem State.setResPin_a (s : State) (r : ResPin) : (s.setResPin r).a = s.a := rfl
@[simp] theorem State.setResPin_x (s : State) (r : ResPin) : (s.setResPin r).x = s.x := rfl
@[simp] theorem State.setResPin_y (s : State) (r : ResPin) : (s.setResPin r).y = s.y := rfl
@[simp] theorem State.setResPin_sp (s : State) (r : ResPin) : (s.setResPin r).sp = s.sp := rfl
@[simp] theorem State.setResPin_pc (s : State) (r : ResPin) : (s.setResPin r).pc = s.pc := rfl
@[simp] theorem State.setResPin_p (s : State) (r : ResPin) : (s.setResPin r).p = s.p := rfl
@[simp] theorem State.setResPin_nmiPending (s : State) (r : ResPin) : (s.setResPin r).nmiPending = s.nmiPending := rfl
@[simp] theorem State.setResPin_priorMask (s : State) (r : ResPin) : (s.setResPin r).priorMask = s.priorMask := rfl
@[simp] theorem State.setResPin_mem (s : State) (r : ResPin) : (s.setResPin r).mem = s.mem := rfl
@[simp] theorem State.setResPin_plat (s : State) (r : ResPin) : (s.setResPin r).plat = s.plat := rfl
@[simp] theorem State.setResPin_cycles (s : State) (r : ResPin) : (s.setResPin r).cycles = s.cycles := rfl
@[simp] theorem State.setResPin_draws (s : State) (r : ResPin) : (s.setResPin r).draws = s.draws := rfl
@[simp] theorem State.setResPin_inputs (s : State) (r : ResPin) : (s.setResPin r).inputs = s.inputs := rfl
@[simp] theorem State.setResPin_halts (s : State) (r : ResPin) : (s.setResPin r).halts = s.halts := rfl
@[simp] theorem State.setResPin_resPin (s : State) (r : ResPin) : (s.setResPin r).resPin = r := rfl
@[simp] theorem State.setResPin_cfg (s : State) (r : ResPin) : (s.setResPin r).cfg = s.cfg := rfl

@[simp] theorem State.tick_a (s : State) (n : Nat) : (s.tick n).a = s.a := rfl
@[simp] theorem State.tick_x (s : State) (n : Nat) : (s.tick n).x = s.x := rfl
@[simp] theorem State.tick_y (s : State) (n : Nat) : (s.tick n).y = s.y := rfl
@[simp] theorem State.tick_sp (s : State) (n : Nat) : (s.tick n).sp = s.sp := rfl
@[simp] theorem State.tick_pc (s : State) (n : Nat) : (s.tick n).pc = s.pc := rfl
@[simp] theorem State.tick_p (s : State) (n : Nat) : (s.tick n).p = s.p := rfl
@[simp] theorem State.tick_nmiPending (s : State) (n : Nat) : (s.tick n).nmiPending = s.nmiPending := rfl
@[simp] theorem State.tick_priorMask (s : State) (n : Nat) : (s.tick n).priorMask = s.priorMask := rfl
@[simp] theorem State.tick_mem (s : State) (n : Nat) : (s.tick n).mem = s.mem := rfl
@[simp] theorem State.tick_plat (s : State) (n : Nat) : (s.tick n).plat = s.plat := rfl
@[simp] theorem State.tick_cycles (s : State) (n : Nat) : (s.tick n).cycles = s.cycles + n := rfl
@[simp] theorem State.tick_draws (s : State) (n : Nat) : (s.tick n).draws = s.draws := rfl
@[simp] theorem State.tick_inputs (s : State) (n : Nat) : (s.tick n).inputs = s.inputs := rfl
@[simp] theorem State.tick_halts (s : State) (n : Nat) : (s.tick n).halts = s.halts := rfl
@[simp] theorem State.tick_resPin (s : State) (n : Nat) : (s.tick n).resPin = s.resPin := rfl
@[simp] theorem State.tick_cfg (s : State) (n : Nat) : (s.tick n).cfg = s.cfg := rfl

@[simp] theorem State.advance_a (s : State) (len n : Nat) : (s.advance len n).a = s.a := rfl
@[simp] theorem State.advance_x (s : State) (len n : Nat) : (s.advance len n).x = s.x := rfl
@[simp] theorem State.advance_y (s : State) (len n : Nat) : (s.advance len n).y = s.y := rfl
@[simp] theorem State.advance_sp (s : State) (len n : Nat) : (s.advance len n).sp = s.sp := rfl
@[simp] theorem State.advance_pc (s : State) (len n : Nat) : (s.advance len n).pc = s.pc + BitVec.ofNat 16 len := rfl
@[simp] theorem State.advance_p (s : State) (len n : Nat) : (s.advance len n).p = s.p := rfl
@[simp] theorem State.advance_nmiPending (s : State) (len n : Nat) : (s.advance len n).nmiPending = s.nmiPending := rfl
@[simp] theorem State.advance_priorMask (s : State) (len n : Nat) : (s.advance len n).priorMask = none := rfl
@[simp] theorem State.advance_mem (s : State) (len n : Nat) : (s.advance len n).mem = s.mem := rfl
@[simp] theorem State.advance_plat (s : State) (len n : Nat) : (s.advance len n).plat = s.plat := rfl
@[simp] theorem State.advance_cycles (s : State) (len n : Nat) : (s.advance len n).cycles = s.cycles + n := rfl
@[simp] theorem State.advance_draws (s : State) (len n : Nat) : (s.advance len n).draws = s.draws := rfl
@[simp] theorem State.advance_inputs (s : State) (len n : Nat) : (s.advance len n).inputs = s.inputs := rfl
@[simp] theorem State.advance_halts (s : State) (len n : Nat) : (s.advance len n).halts = s.halts := rfl
@[simp] theorem State.advance_resPin (s : State) (len n : Nat) : (s.advance len n).resPin = s.resPin := rfl
@[simp] theorem State.advance_cfg (s : State) (len n : Nat) : (s.advance len n).cfg = s.cfg := rfl

@[simp] theorem State.setNZ_a (s : State) (v : Byte) : (s.setNZ v).a = s.a := rfl
@[simp] theorem State.setNZ_x (s : State) (v : Byte) : (s.setNZ v).x = s.x := rfl
@[simp] theorem State.setNZ_y (s : State) (v : Byte) : (s.setNZ v).y = s.y := rfl
@[simp] theorem State.setNZ_sp (s : State) (v : Byte) : (s.setNZ v).sp = s.sp := rfl
@[simp] theorem State.setNZ_pc (s : State) (v : Byte) : (s.setNZ v).pc = s.pc := rfl
@[simp] theorem State.setNZ_p (s : State) (v : Byte) : (s.setNZ v).p = s.p.setNZ v := rfl
@[simp] theorem State.setNZ_nmiPending (s : State) (v : Byte) : (s.setNZ v).nmiPending = s.nmiPending := rfl
@[simp] theorem State.setNZ_priorMask (s : State) (v : Byte) : (s.setNZ v).priorMask = s.priorMask := rfl
@[simp] theorem State.setNZ_mem (s : State) (v : Byte) : (s.setNZ v).mem = s.mem := rfl
@[simp] theorem State.setNZ_plat (s : State) (v : Byte) : (s.setNZ v).plat = s.plat := rfl
@[simp] theorem State.setNZ_cycles (s : State) (v : Byte) : (s.setNZ v).cycles = s.cycles := rfl
@[simp] theorem State.setNZ_draws (s : State) (v : Byte) : (s.setNZ v).draws = s.draws := rfl
@[simp] theorem State.setNZ_inputs (s : State) (v : Byte) : (s.setNZ v).inputs = s.inputs := rfl
@[simp] theorem State.setNZ_halts (s : State) (v : Byte) : (s.setNZ v).halts = s.halts := rfl
@[simp] theorem State.setNZ_resPin (s : State) (v : Byte) : (s.setNZ v).resPin = s.resPin := rfl
@[simp] theorem State.setNZ_cfg (s : State) (v : Byte) : (s.setNZ v).cfg = s.cfg := rfl

end Sys2Proof.Machine
end

