-- ==== Sys2Proof/Laws/Bus.lean ====
section
/-! SUPPORT. What each bus and stack operation can do, said once: the frame of each operation, and that each keeps the
invariant's memory form. Proofs cite these and never unfold the operations. -/

namespace Sys2Proof.Machine

/-! ## Frames -/

/-- `t` is `s` but for what the platform may change in an access: memory, its own state, free values drawn. -/
abbrev PlatformOnly (s t : State) : Prop := t = { s with mem := t.mem, draws := t.draws, plat := t.plat }

/-- `t` is `s` but for what a halt may change: what the platform may, cycles, halts. -/
abbrev HaltOnly (s t : State) : Prop :=
  t = { s with mem := t.mem, cycles := t.cycles, draws := t.draws, halts := t.halts, plat := t.plat }

/-- `t` is `s` but for what the bus and its schedules may change: what a halt may, and how long RES stays high. -/
abbrev BusOnly (s t : State) : Prop :=
  t = { s with
    mem := t.mem, cycles := t.cycles, draws := t.draws, halts := t.halts, plat := t.plat, resPin := t.resPin }

theorem PlatformOnly.trans {s t u : State} (h : PlatformOnly s t) (k : PlatformOnly t u) : PlatformOnly s u := by
  unfold PlatformOnly at *
  rw [k, h]

theorem BusOnly.trans {s t u : State} (h : BusOnly s t) (k : BusOnly t u) : BusOnly s u := by
  unfold BusOnly at *
  rw [k, h]

theorem PlatformOnly.haltOnly {s t : State} (h : PlatformOnly s t) : HaltOnly s t := by
  unfold PlatformOnly at h
  unfold HaltOnly
  rw [h]

theorem HaltOnly.trans {s t u : State} (h : HaltOnly s t) (k : HaltOnly t u) : HaltOnly s u := by
  unfold HaltOnly at *
  rw [k, h]

theorem HaltOnly.busOnly {s t : State} (h : HaltOnly s t) : BusOnly s t := by
  unfold HaltOnly at h
  unfold BusOnly
  rw [h]

theorem State.poke_mem_only (s : State) (cell : Nat) (v : Byte) : s.poke cell v = s.setMem (s.poke cell v).mem := by
  unfold State.poke
  split <;> rfl

theorem State.pokeAll_mem_only (s : State) (ps : List Poke) : s.pokeAll ps = s.setMem (s.pokeAll ps).mem := by
  unfold State.pokeAll
  induction ps generalizing s with
  | nil => rfl
  | cons q ps ih =>
    rw [List.foldl_cons, ih, State.poke_mem_only]
    rfl

theorem State.devicesMove_plat_only (s : State) : s.devicesMove = s.setPlat s.devicesMove.plat := by
  unfold State.devicesMove
  split <;> rfl

/-- A device's side effects change memory and the platform's state, nothing else. -/
theorem State.follow_frame (s : State) (r : Option DeviceRule) :
    s.follow r = (s.setMem (s.follow r).mem).setPlat (s.follow r).plat := by
  cases r with
  | none => rfl
  | some r =>
    unfold State.follow
    simp only []
    rw [State.pokeAll_mem_only]
    rfl

theorem State.deviceWrite_frame (s : State) (addr : Word) (v : Byte) :
    s.deviceWrite addr v = (s.setMem (s.deviceWrite addr v).mem).setPlat (s.deviceWrite addr v).plat := by
  unfold State.deviceWrite
  simp only []
  rw [State.follow_frame, State.devicesMove_plat_only]
  rfl

theorem State.deviceRead_platformOnly (s : State) (addr : Word) (behind : Option Byte) :
    PlatformOnly s (s.deviceRead addr behind).st := by
  unfold State.deviceRead
  simp only []
  split <;>
  · rw [State.follow_frame, State.devicesMove_plat_only]
    rfl

theorem State.platformWrite_frame (s : State) (addr : Word) (v : Byte) :
    s.platformWrite addr v = (s.setMem (s.platformWrite addr v).mem).setPlat (s.platformWrite addr v).plat := by
  unfold State.platformWrite
  split
  · rfl
  · rfl
  · exact State.deviceWrite_frame s addr v
  · rw [State.deviceWrite_frame]
    rfl
  · exact State.deviceWrite_frame s addr v

theorem State.platformWrite_platformOnly (s : State) (addr : Word) (v : Byte) :
    PlatformOnly s (s.platformWrite addr v) := by
  rw [State.platformWrite_frame]
  rfl

theorem State.platformRead_platformOnly (s : State) (addr : Word) : PlatformOnly s (s.platformRead addr).st := by
  unfold State.platformRead
  split
  · rfl
  · rfl
  all_goals exact State.deviceRead_platformOnly s addr _

theorem State.masterAct_platformOnly (s : State) (act : MasterAct) : PlatformOnly s (s.masterAct act) := by
  cases act with
  | read addr => exact State.platformRead_platformOnly s addr
  | write addr v => exact State.platformWrite_platformOnly s addr v
  | poke cell v =>
    show PlatformOnly s (s.poke cell v)
    rw [State.poke_mem_only]
    rfl

theorem State.masterActs_platformOnly (s : State) (acts : List MasterAct) : PlatformOnly s (s.masterActs acts) := by
  unfold State.masterActs
  induction acts generalizing s with
  | nil => rfl
  | cons act acts ih => exact (State.masterAct_platformOnly s act).trans (ih _)

/-- A halt changes what another bus master may change, cycles and the schedule of halts, nothing else (R66). -/
theorem State.takeHalt_haltOnly (s : State) : HaltOnly s s.takeHalt := by
  unfold State.takeHalt
  split
  · split
    · rfl
    · rename_i h rest _
      have k : HaltOnly s ((s.setHalts rest).tick h.cycles) := rfl
      exact k.trans (State.masterActs_platformOnly _ _).haltOnly
  · rfl

theorem State.takeHalt_busOnly (s : State) : BusOnly s s.takeHalt := (State.takeHalt_haltOnly s).busOnly

theorem State.platformRead_busOnly (s : State) (addr : Word) : BusOnly s (s.platformRead addr).st :=
  (State.platformRead_platformOnly s addr).haltOnly.busOnly

/-- A read by the processor changes no processor state, and moves RES on by one access (R45, R217). -/
theorem State.processorRead_frame (s : State) (addr : Word) :
    PlatformOnly (s.setResPin s.resPin.next) (s.processorRead addr).st := by
  unfold State.processorRead
  simp only []
  split
  · rfl
  · exact State.platformRead_platformOnly _ addr

theorem State.processorRead_busOnly (s : State) (addr : Word) : BusOnly s (s.processorRead addr).st :=
  have k : BusOnly s (s.setResPin s.resPin.next) := rfl
  k.trans (State.processorRead_frame s addr).haltOnly.busOnly

/-- A read cycle changes no processor state (R44, R66). -/
theorem State.busRead_busOnly (s : State) (addr : Word) : BusOnly s (s.busRead addr).st :=
  (State.takeHalt_busOnly s).trans (State.processorRead_busOnly _ addr)

/-- A write cycle changes memory and the platform's state, moves RES on by one access, and nothing else (R53, R217). -/
theorem State.busWrite_frame (s : State) (addr : Word) (v : Byte) :
    s.busWrite addr v =
      ((s.setMem (s.busWrite addr v).mem).setPlat (s.busWrite addr v).plat).setResPin s.resPin.next := by
  unfold State.busWrite
  simp only []
  split
  · rfl
  · rw [State.platformWrite_frame]
    rfl

theorem State.busWrite_busOnly (s : State) (addr : Word) (v : Byte) : BusOnly s (s.busWrite addr v) := by
  rw [State.busWrite_frame]
  rfl

/-- A push changes memory, the platform's state and S, and moves RES on by one access (R60). -/
theorem State.push_frame (s : State) (v : Byte) :
    s.push v = (((s.setMem (s.push v).mem).setPlat (s.push v).plat).setSp (s.sp - 1)).setResPin s.resPin.next := by
  unfold State.push
  rw [State.busWrite_frame]
  rfl

/-- `t` is `s` but for what pushes change: memory, the platform's state, S, how long RES stays high. -/
abbrev PushOnly (s t : State) : Prop := t = { s with mem := t.mem, plat := t.plat, sp := t.sp, resPin := t.resPin }

theorem PushOnly.trans {s t u : State} (h : PushOnly s t) (k : PushOnly t u) : PushOnly s u := by
  unfold PushOnly at *
  rw [k, h]

theorem State.push_pushOnly (s : State) (v : Byte) : PushOnly s (s.push v) := by
  rw [State.push_frame]
  rfl

/-- A pull is a read cycle after S has moved (R61). -/
theorem State.pull_busOnly (s : State) : BusOnly (s.setSp (s.sp + 1)) s.pull.st :=
  State.busRead_busOnly _ _

/-! ## The fields a bus operation leaves alone -/

@[simp] theorem State.takeHalt_a (s : State) : s.takeHalt.a = s.a := by rw [State.takeHalt_busOnly s]
@[simp] theorem State.takeHalt_x (s : State) : s.takeHalt.x = s.x := by rw [State.takeHalt_busOnly s]
@[simp] theorem State.takeHalt_y (s : State) : s.takeHalt.y = s.y := by rw [State.takeHalt_busOnly s]
@[simp] theorem State.takeHalt_sp (s : State) : s.takeHalt.sp = s.sp := by rw [State.takeHalt_busOnly s]
@[simp] theorem State.takeHalt_pc (s : State) : s.takeHalt.pc = s.pc := by rw [State.takeHalt_busOnly s]
@[simp] theorem State.takeHalt_p (s : State) : s.takeHalt.p = s.p := by rw [State.takeHalt_busOnly s]
@[simp] theorem State.takeHalt_nmiPending (s : State) : s.takeHalt.nmiPending = s.nmiPending := by rw [State.takeHalt_busOnly s]
@[simp] theorem State.takeHalt_priorMask (s : State) : s.takeHalt.priorMask = s.priorMask := by rw [State.takeHalt_busOnly s]
@[simp] theorem State.takeHalt_inputs (s : State) : s.takeHalt.inputs = s.inputs := by rw [State.takeHalt_busOnly s]
@[simp] theorem State.takeHalt_cfg (s : State) : s.takeHalt.cfg = s.cfg := by rw [State.takeHalt_busOnly s]
@[simp] theorem State.takeHalt_resPin (s : State) : s.takeHalt.resPin = s.resPin := by
  rw [State.takeHalt_haltOnly s]
@[simp] theorem State.platformRead_resPin (s : State) (addr : Word) : (s.platformRead addr).st.resPin = s.resPin := by
  rw [State.platformRead_platformOnly s addr]
@[simp] theorem State.platformWrite_resPin (s : State) (addr : Word) (v : Byte) :
    (s.platformWrite addr v).resPin = s.resPin := by rw [State.platformWrite_frame s addr v]; rfl
@[simp] theorem State.processorRead_resPin (s : State) (addr : Word) :
    (s.processorRead addr).st.resPin = s.resPin.next := by rw [State.processorRead_frame s addr]; rfl
@[simp] theorem State.busRead_resPin (s : State) (addr : Word) : (s.busRead addr).st.resPin = s.resPin.next := by
  unfold State.busRead
  rw [State.processorRead_resPin, State.takeHalt_resPin]
@[simp] theorem State.busWrite_resPin (s : State) (addr : Word) (v : Byte) :
    (s.busWrite addr v).resPin = s.resPin.next := by rw [State.busWrite_frame s addr v]; rfl
@[simp] theorem State.push_resPin (s : State) (v : Byte) : (s.push v).resPin = s.resPin.next := by
  rw [State.push_frame s v]; rfl
@[simp] theorem State.pull_resPin (s : State) : s.pull.st.resPin = s.resPin.next :=
  State.busRead_resPin (s.setSp (s.sp + 1)) _
@[simp] theorem State.busRead_a (s : State) (addr : Word) : (s.busRead addr).st.a = s.a := by
  rw [State.busRead_busOnly s addr]
@[simp] theorem State.busRead_x (s : State) (addr : Word) : (s.busRead addr).st.x = s.x := by
  rw [State.busRead_busOnly s addr]
@[simp] theorem State.busRead_y (s : State) (addr : Word) : (s.busRead addr).st.y = s.y := by
  rw [State.busRead_busOnly s addr]
@[simp] theorem State.busRead_sp (s : State) (addr : Word) : (s.busRead addr).st.sp = s.sp := by
  rw [State.busRead_busOnly s addr]
@[simp] theorem State.busRead_pc (s : State) (addr : Word) : (s.busRead addr).st.pc = s.pc := by
  rw [State.busRead_busOnly s addr]
@[simp] theorem State.busRead_p (s : State) (addr : Word) : (s.busRead addr).st.p = s.p := by
  rw [State.busRead_busOnly s addr]
@[simp] theorem State.busRead_nmiPending (s : State) (addr : Word) : (s.busRead addr).st.nmiPending = s.nmiPending := by
  rw [State.busRead_busOnly s addr]
@[simp] theorem State.busRead_priorMask (s : State) (addr : Word) : (s.busRead addr).st.priorMask = s.priorMask := by
  rw [State.busRead_busOnly s addr]
@[simp] theorem State.busRead_inputs (s : State) (addr : Word) : (s.busRead addr).st.inputs = s.inputs := by
  rw [State.busRead_busOnly s addr]
@[simp] theorem State.busRead_cfg (s : State) (addr : Word) : (s.busRead addr).st.cfg = s.cfg := by
  rw [State.busRead_busOnly s addr]
@[simp] theorem State.platformRead_a (s : State) (addr : Word) : (s.platformRead addr).st.a = s.a := by
  rw [State.platformRead_busOnly s addr]
@[simp] theorem State.platformRead_x (s : State) (addr : Word) : (s.platformRead addr).st.x = s.x := by
  rw [State.platformRead_busOnly s addr]
@[simp] theorem State.platformRead_y (s : State) (addr : Word) : (s.platformRead addr).st.y = s.y := by
  rw [State.platformRead_busOnly s addr]
@[simp] theorem State.platformRead_sp (s : State) (addr : Word) : (s.platformRead addr).st.sp = s.sp := by
  rw [State.platformRead_busOnly s addr]
@[simp] theorem State.platformRead_pc (s : State) (addr : Word) : (s.platformRead addr).st.pc = s.pc := by
  rw [State.platformRead_busOnly s addr]
@[simp] theorem State.platformRead_p (s : State) (addr : Word) : (s.platformRead addr).st.p = s.p := by
  rw [State.platformRead_busOnly s addr]
@[simp] theorem State.platformRead_nmiPending (s : State) (addr : Word) : (s.platformRead addr).st.nmiPending = s.nmiPending := by
  rw [State.platformRead_busOnly s addr]
@[simp] theorem State.platformRead_priorMask (s : State) (addr : Word) : (s.platformRead addr).st.priorMask = s.priorMask := by
  rw [State.platformRead_busOnly s addr]
@[simp] theorem State.platformRead_inputs (s : State) (addr : Word) : (s.platformRead addr).st.inputs = s.inputs := by
  rw [State.platformRead_busOnly s addr]
@[simp] theorem State.platformRead_cfg (s : State) (addr : Word) : (s.platformRead addr).st.cfg = s.cfg := by
  rw [State.platformRead_busOnly s addr]
@[simp] theorem State.processorRead_a (s : State) (addr : Word) : (s.processorRead addr).st.a = s.a := by
  rw [State.processorRead_frame s addr]; rfl
@[simp] theorem State.processorRead_x (s : State) (addr : Word) : (s.processorRead addr).st.x = s.x := by
  rw [State.processorRead_frame s addr]; rfl
@[simp] theorem State.processorRead_y (s : State) (addr : Word) : (s.processorRead addr).st.y = s.y := by
  rw [State.processorRead_frame s addr]; rfl
@[simp] theorem State.processorRead_sp (s : State) (addr : Word) : (s.processorRead addr).st.sp = s.sp := by
  rw [State.processorRead_frame s addr]; rfl
@[simp] theorem State.processorRead_pc (s : State) (addr : Word) : (s.processorRead addr).st.pc = s.pc := by
  rw [State.processorRead_frame s addr]; rfl
@[simp] theorem State.processorRead_p (s : State) (addr : Word) : (s.processorRead addr).st.p = s.p := by
  rw [State.processorRead_frame s addr]; rfl
@[simp] theorem State.processorRead_nmiPending (s : State) (addr : Word) : (s.processorRead addr).st.nmiPending = s.nmiPending := by
  rw [State.processorRead_frame s addr]; rfl
@[simp] theorem State.processorRead_priorMask (s : State) (addr : Word) : (s.processorRead addr).st.priorMask = s.priorMask := by
  rw [State.processorRead_frame s addr]; rfl
@[simp] theorem State.processorRead_inputs (s : State) (addr : Word) : (s.processorRead addr).st.inputs = s.inputs := by
  rw [State.processorRead_frame s addr]; rfl
@[simp] theorem State.processorRead_cfg (s : State) (addr : Word) : (s.processorRead addr).st.cfg = s.cfg := by
  rw [State.processorRead_frame s addr]; rfl
@[simp] theorem State.processorRead_cycles (s : State) (addr : Word) : (s.processorRead addr).st.cycles = s.cycles := by
  rw [State.processorRead_frame s addr]; rfl
@[simp] theorem State.processorRead_halts (s : State) (addr : Word) : (s.processorRead addr).st.halts = s.halts := by
  rw [State.processorRead_frame s addr]; rfl
@[simp] theorem State.platformWrite_a (s : State) (addr : Word) (v : Byte) :
    (s.platformWrite addr v).a = s.a := by rw [State.platformWrite_frame s addr v]; rfl
@[simp] theorem State.busWrite_a (s : State) (addr : Word) (v : Byte) : (s.busWrite addr v).a = s.a := by
  rw [State.busWrite_frame s addr v]; rfl
@[simp] theorem State.push_a (s : State) (v : Byte) : (s.push v).a = s.a := by rw [State.push_frame s v]; rfl
@[simp] theorem State.platformWrite_x (s : State) (addr : Word) (v : Byte) :
    (s.platformWrite addr v).x = s.x := by rw [State.platformWrite_frame s addr v]; rfl
@[simp] theorem State.busWrite_x (s : State) (addr : Word) (v : Byte) : (s.busWrite addr v).x = s.x := by
  rw [State.busWrite_frame s addr v]; rfl
@[simp] theorem State.push_x (s : State) (v : Byte) : (s.push v).x = s.x := by rw [State.push_frame s v]; rfl
@[simp] theorem State.platformWrite_y (s : State) (addr : Word) (v : Byte) :
    (s.platformWrite addr v).y = s.y := by rw [State.platformWrite_frame s addr v]; rfl
@[simp] theorem State.busWrite_y (s : State) (addr : Word) (v : Byte) : (s.busWrite addr v).y = s.y := by
  rw [State.busWrite_frame s addr v]; rfl
@[simp] theorem State.push_y (s : State) (v : Byte) : (s.push v).y = s.y := by rw [State.push_frame s v]; rfl
@[simp] theorem State.platformWrite_sp (s : State) (addr : Word) (v : Byte) :
    (s.platformWrite addr v).sp = s.sp := by rw [State.platformWrite_frame s addr v]; rfl
@[simp] theorem State.busWrite_sp (s : State) (addr : Word) (v : Byte) : (s.busWrite addr v).sp = s.sp := by
  rw [State.busWrite_frame s addr v]; rfl
@[simp] theorem State.push_sp (s : State) (v : Byte) : (s.push v).sp = s.sp - 1 := by rw [State.push_frame s v]; rfl
@[simp] theorem State.platformWrite_pc (s : State) (addr : Word) (v : Byte) :
    (s.platformWrite addr v).pc = s.pc := by rw [State.platformWrite_frame s addr v]; rfl
@[simp] theorem State.busWrite_pc (s : State) (addr : Word) (v : Byte) : (s.busWrite addr v).pc = s.pc := by
  rw [State.busWrite_frame s addr v]; rfl
@[simp] theorem State.push_pc (s : State) (v : Byte) : (s.push v).pc = s.pc := by rw [State.push_frame s v]; rfl
@[simp] theorem State.platformWrite_p (s : State) (addr : Word) (v : Byte) :
    (s.platformWrite addr v).p = s.p := by rw [State.platformWrite_frame s addr v]; rfl
@[simp] theorem State.busWrite_p (s : State) (addr : Word) (v : Byte) : (s.busWrite addr v).p = s.p := by
  rw [State.busWrite_frame s addr v]; rfl
@[simp] theorem State.push_p (s : State) (v : Byte) : (s.push v).p = s.p := by rw [State.push_frame s v]; rfl
@[simp] theorem State.platformWrite_nmiPending (s : State) (addr : Word) (v : Byte) :
    (s.platformWrite addr v).nmiPending = s.nmiPending := by rw [State.platformWrite_frame s addr v]; rfl
@[simp] theorem State.busWrite_nmiPending (s : State) (addr : Word) (v : Byte) : (s.busWrite addr v).nmiPending = s.nmiPending := by
  rw [State.busWrite_frame s addr v]; rfl
@[simp] theorem State.push_nmiPending (s : State) (v : Byte) : (s.push v).nmiPending = s.nmiPending := by rw [State.push_frame s v]; rfl
@[simp] theorem State.platformWrite_priorMask (s : State) (addr : Word) (v : Byte) :
    (s.platformWrite addr v).priorMask = s.priorMask := by rw [State.platformWrite_frame s addr v]; rfl
@[simp] theorem State.busWrite_priorMask (s : State) (addr : Word) (v : Byte) : (s.busWrite addr v).priorMask = s.priorMask := by
  rw [State.busWrite_frame s addr v]; rfl
@[simp] theorem State.push_priorMask (s : State) (v : Byte) : (s.push v).priorMask = s.priorMask := by rw [State.push_frame s v]; rfl
@[simp] theorem State.platformWrite_inputs (s : State) (addr : Word) (v : Byte) :
    (s.platformWrite addr v).inputs = s.inputs := by rw [State.platformWrite_frame s addr v]; rfl
@[simp] theorem State.busWrite_inputs (s : State) (addr : Word) (v : Byte) : (s.busWrite addr v).inputs = s.inputs := by
  rw [State.busWrite_frame s addr v]; rfl
@[simp] theorem State.push_inputs (s : State) (v : Byte) : (s.push v).inputs = s.inputs := by rw [State.push_frame s v]; rfl
@[simp] theorem State.platformWrite_cfg (s : State) (addr : Word) (v : Byte) :
    (s.platformWrite addr v).cfg = s.cfg := by rw [State.platformWrite_frame s addr v]; rfl
@[simp] theorem State.busWrite_cfg (s : State) (addr : Word) (v : Byte) : (s.busWrite addr v).cfg = s.cfg := by
  rw [State.busWrite_frame s addr v]; rfl
@[simp] theorem State.push_cfg (s : State) (v : Byte) : (s.push v).cfg = s.cfg := by rw [State.push_frame s v]; rfl
@[simp] theorem State.platformWrite_cycles (s : State) (addr : Word) (v : Byte) :
    (s.platformWrite addr v).cycles = s.cycles := by rw [State.platformWrite_frame s addr v]; rfl
@[simp] theorem State.busWrite_cycles (s : State) (addr : Word) (v : Byte) : (s.busWrite addr v).cycles = s.cycles := by
  rw [State.busWrite_frame s addr v]; rfl
@[simp] theorem State.push_cycles (s : State) (v : Byte) : (s.push v).cycles = s.cycles := by rw [State.push_frame s v]; rfl
@[simp] theorem State.platformWrite_draws (s : State) (addr : Word) (v : Byte) :
    (s.platformWrite addr v).draws = s.draws := by rw [State.platformWrite_frame s addr v]; rfl
@[simp] theorem State.busWrite_draws (s : State) (addr : Word) (v : Byte) : (s.busWrite addr v).draws = s.draws := by
  rw [State.busWrite_frame s addr v]; rfl
@[simp] theorem State.push_draws (s : State) (v : Byte) : (s.push v).draws = s.draws := by rw [State.push_frame s v]; rfl
@[simp] theorem State.platformWrite_halts (s : State) (addr : Word) (v : Byte) :
    (s.platformWrite addr v).halts = s.halts := by rw [State.platformWrite_frame s addr v]; rfl
@[simp] theorem State.busWrite_halts (s : State) (addr : Word) (v : Byte) : (s.busWrite addr v).halts = s.halts := by
  rw [State.busWrite_frame s addr v]; rfl
@[simp] theorem State.push_halts (s : State) (v : Byte) : (s.push v).halts = s.halts := by rw [State.push_frame s v]; rfl
@[simp] theorem State.pull_a (s : State) : s.pull.st.a = s.a := by rw [State.pull_busOnly s]; rfl
@[simp] theorem State.pull_x (s : State) : s.pull.st.x = s.x := by rw [State.pull_busOnly s]; rfl
@[simp] theorem State.pull_y (s : State) : s.pull.st.y = s.y := by rw [State.pull_busOnly s]; rfl
@[simp] theorem State.pull_sp (s : State) : s.pull.st.sp = s.sp + 1 := by rw [State.pull_busOnly s]; rfl
@[simp] theorem State.pull_pc (s : State) : s.pull.st.pc = s.pc := by rw [State.pull_busOnly s]; rfl
@[simp] theorem State.pull_p (s : State) : s.pull.st.p = s.p := by rw [State.pull_busOnly s]; rfl
@[simp] theorem State.pull_nmiPending (s : State) : s.pull.st.nmiPending = s.nmiPending := by rw [State.pull_busOnly s]; rfl
@[simp] theorem State.pull_priorMask (s : State) : s.pull.st.priorMask = s.priorMask := by rw [State.pull_busOnly s]; rfl
@[simp] theorem State.pull_inputs (s : State) : s.pull.st.inputs = s.inputs := by rw [State.pull_busOnly s]; rfl
@[simp] theorem State.pull_cfg (s : State) : s.pull.st.cfg = s.cfg := by rw [State.pull_busOnly s]; rfl

/-! ## What answers where -/

@[simp] theorem State.busAddr_busWrite (s : State) (addr : Word) (v : Byte) (other : Word) :
    (s.busWrite addr v).busAddr other = s.busAddr other := by
  unfold State.busAddr
  rw [State.busWrite_cfg]

/-- What answers at an address depends on the map and on the platform's state only. -/
theorem State.regionAt_congr {s t : State} (hc : t.cfg = s.cfg) (hp : t.plat.state = s.plat.state) (addr : Word) :
    t.regionAt addr = s.regionAt addr := by
  unfold State.regionAt State.busAddr
  rw [hc, hp]

theorem State.kindAt_congr {s t : State} (hc : t.cfg = s.cfg) (hp : t.plat.state = s.plat.state) (addr : Word) :
    t.kindAt addr = s.kindAt addr := by
  unfold State.kindAt
  rw [State.regionAt_congr hc hp]

theorem State.cellAt_congr {s t : State} (hc : t.cfg = s.cfg) (hp : t.plat.state = s.plat.state) (addr : Word) :
    t.cellAt addr = s.cellAt addr := by
  unfold State.cellAt State.busAddr
  rw [State.regionAt_congr hc hp, hc]

/-- The byte read at an address depends on memory too. -/
theorem State.peek_congr {s t : State} (hc : t.cfg = s.cfg) (hp : t.plat.state = s.plat.state) (hm : t.mem = s.mem)
    (addr : Word) : t.peek addr = s.peek addr := by
  unfold State.peek
  rw [State.cellAt_congr hc hp, hm]

@[simp] theorem State.peek_setSp (s : State) (v : Byte) (addr : Word) : (s.setSp v).peek addr = s.peek addr := rfl
@[simp] theorem State.peek_setPc (s : State) (w : Word) (addr : Word) : (s.setPc w).peek addr = s.peek addr := rfl
@[simp] theorem State.peek_setP (s : State) (f : Flags) (addr : Word) : (s.setP f).peek addr = s.peek addr := rfl
@[simp] theorem State.kindAt_setSp (s : State) (v : Byte) (addr : Word) : (s.setSp v).kindAt addr = s.kindAt addr := rfl
@[simp] theorem State.kindAt_setP (s : State) (f : Flags) (addr : Word) : (s.setP f).kindAt addr = s.kindAt addr := rfl
@[simp] theorem State.cellAt_setSp (s : State) (v : Byte) (addr : Word) : (s.setSp v).cellAt addr = s.cellAt addr := rfl
@[simp] theorem State.cellAt_setP (s : State) (f : Flags) (addr : Word) : (s.setP f).cellAt addr = s.cellAt addr := rfl

/-! ## Accesses that nothing holds back -/

theorem State.takeHalt_of_notHeld (s : State) (h : s.notHeld) : s.takeHalt = s := by
  unfold State.takeHalt
  rcases h.2 with h | h
  · simp [h]
  · simp [h]

/-- RES at an access that is made does not show. -/
theorem State.setResPin_next_of_high (s : State) (h : s.resPin = .high) : s.setResPin s.resPin.next = s := by
  rw [h]
  show s.setResPin .high = s
  rw [← h]
  rfl

/-- While RES is high the processor's reads are made (R45). -/
theorem State.processorRead_of_high (s : State) (addr : Word) (h : s.resPin = .high) :
    s.processorRead addr = s.platformRead addr := by
  unfold State.processorRead
  simp only [State.setResPin_next_of_high s h]
  rw [if_neg (by rw [h]; exact fun k => by cases k)]

/-- While RES is high the processor's writes are made (R45). -/
theorem State.busWrite_of_high (s : State) (addr : Word) (v : Byte) (h : s.resPin = .high) :
    s.busWrite addr v = s.platformWrite addr v := by
  unfold State.busWrite
  simp only [State.setResPin_next_of_high s h]
  rw [if_neg (by rw [h]; exact fun k => by cases k)]

/-- A write by the processor is inhibited or made (R243). -/
theorem State.busWrite_cases (s : State) (addr : Word) (v : Byte) :
    s.busWrite addr v = s.setResPin s.resPin.next ∨
      s.busWrite addr v = (s.setResPin s.resPin.next).platformWrite addr v := by
  unfold State.busWrite
  simp only []
  split
  · exact .inl rfl
  · exact .inr rfl

/-- A read by the processor is inhibited or made (R45). -/
theorem State.processorRead_cases (s : State) (addr : Word) :
    (s.processorRead addr).st = (s.setResPin s.resPin.next).setDraws (s.draws + 1) ∨
      s.processorRead addr = (s.setResPin s.resPin.next).platformRead addr := by
  unfold State.processorRead
  simp only []
  split
  · exact .inl rfl
  · exact .inr rfl

theorem State.busRead_of_notHeld (s : State) (addr : Word) (h : s.notHeld) : s.busRead addr = s.platformRead addr := by
  unfold State.busRead
  rw [State.takeHalt_of_notHeld s h, State.processorRead_of_high s addr h.1]

theorem State.platformRead_plain (s : State) (addr : Word) (hk : (s.kindAt addr).plain = true) :
    s.platformRead addr = { val := s.peek addr, st := s } := by
  unfold State.platformRead
  split
  · rfl
  · rfl
  all_goals
    rename_i hx
    rw [hx] at hk
    cases hk

/-- A read of plain memory that no halt holds gives the byte memory holds and changes nothing. -/
theorem State.busRead_plain (s : State) (addr : Word) (h : s.notHeld) (hk : (s.kindAt addr).plain = true) :
    s.busRead addr = { val := s.peek addr, st := s } := by
  rw [State.busRead_of_notHeld s addr h, State.platformRead_plain s addr hk]

@[simp] theorem State.platformRead_halts (s : State) (addr : Word) : (s.platformRead addr).st.halts = s.halts := by
  rw [State.platformRead_platformOnly s addr]

@[simp] theorem State.platformRead_cycles (s : State) (addr : Word) : (s.platformRead addr).st.cycles = s.cycles := by
  rw [State.platformRead_platformOnly s addr]

theorem State.busRead_halts (s : State) (addr : Word) (h : s.notHeld) : (s.busRead addr).st.halts = s.halts := by
  rw [State.busRead_of_notHeld s addr h]
  exact State.platformRead_halts s addr

theorem State.busRead_notHeld (s : State) (addr : Word) (h : s.notHeld) : (s.busRead addr).st.notHeld := by
  refine ⟨by rw [State.busRead_resPin, h.1]; rfl, h.2.imp (fun k => ?_) fun k => ?_⟩
  · rw [State.busRead_cfg]
    exact k
  · rw [State.busRead_halts s addr h]
    exact k

/-! ## While nothing but the processor changes memory -/

/-- Memory and what answers where are as in `s`, and still nothing but the processor changes them. -/
abbrev Kept (s t : State) : Prop := t.mem = s.mem ∧ t.plat.state = s.plat.state ∧ t.undisturbed

theorem Kept.trans {s t u : State} (h : Kept s t) (k : Kept t u) : Kept s u :=
  ⟨k.1.trans h.1, k.2.1.trans h.2.1, k.2.2⟩

theorem State.noDma_of_notHeld (s : State) (h : s.notHeld) : s.noDma := by
  rcases h.2 with h | h
  · exact .inl h
  · exact .inr (by simp [h])

/-- An entry of passive devices has no side effect. -/
theorem State.follow_of_passive (s : State) (addr : Word) (access : BusAccess) (h : s.devicesPassive) :
    s.follow (s.ruleFor addr access) = s := by
  cases hr : s.ruleFor addr access with
  | none => rfl
  | some r =>
    have hm := h.1 r (List.mem_of_find?_eq_some hr)
    have hs := List.find?_some hr
    simp only [Bool.and_eq_true, beq_iff_eq] at hs
    unfold State.follow
    simp only [hm.1, hm.2, hs.1.1]
    rfl

/-- An access to passive devices leaves memory and the platform's state alone, and the devices passive. -/
abbrev StaysPassive (s t : State) : Prop := t.mem = s.mem ∧ t.plat.state = s.plat.state ∧ t.devicesPassive

theorem State.devicesMove_passive (s : State) (h : s.devicesPassive) : StaysPassive s s.devicesMove := by
  unfold State.devicesMove
  split
  · exact ⟨rfl, rfl, h⟩
  · rename_i m rest e
    have hm : m = none := h.2 m (by rw [e]; exact List.mem_cons_self ..)
    subst hm
    exact ⟨rfl, rfl, h.1, fun k hk => h.2 k (by rw [e]; exact List.mem_cons_of_mem _ hk)⟩

theorem State.deviceRead_passive (s : State) (addr : Word) (behind : Option Byte) (h : s.devicesPassive) :
    StaysPassive s (s.deviceRead addr behind).st := by
  have k := State.devicesMove_passive s h
  unfold State.deviceRead
  simp only [State.follow_of_passive _ _ _ k.2.2]
  split <;> exact k

theorem State.deviceWrite_passive (s : State) (addr : Word) (v : Byte) (h : s.devicesPassive) :
    StaysPassive s (s.deviceWrite addr v) := by
  have k := State.devicesMove_passive s h
  unfold State.deviceWrite
  simp only [State.follow_of_passive _ _ _ k.2.2]
  exact k

theorem State.platformRead_passive (s : State) (addr : Word) (h : s.devicesPassive) :
    StaysPassive s (s.platformRead addr).st := by
  unfold State.platformRead
  split
  · exact ⟨rfl, rfl, h⟩
  · exact ⟨rfl, rfl, h⟩
  all_goals exact State.deviceRead_passive s addr _ h

/-- An access to the platform schedules no act of another bus master. -/
theorem PlatformOnly.noDma {s t : State} (h : PlatformOnly s t) (k : s.noDma) : t.noDma := by
  unfold PlatformOnly at h
  rw [h]
  exact k

theorem State.platformRead_kept (s : State) (addr : Word) (h : s.undisturbed) : Kept s (s.platformRead addr).st :=
  have k := State.platformRead_passive s addr h.2
  ⟨k.1, k.2.1, (State.platformRead_platformOnly s addr).noDma h.1, k.2.2⟩

theorem State.deviceWrite_kept (s : State) (addr : Word) (v : Byte) (h : s.undisturbed) : Kept s (s.deviceWrite addr v) :=
  have k := State.deviceWrite_passive s addr v h.2
  have e : PlatformOnly s (s.deviceWrite addr v) := by rw [State.deviceWrite_frame]; rfl
  ⟨k.1, k.2.1, e.noDma h.1, k.2.2⟩

/-- A halt in which no other bus master acts changes the schedule of halts and the cycle counter, nothing else. -/
theorem State.takeHalt_of_noDma (s : State) (h : s.noDma) :
    s.takeHalt = { s with halts := s.takeHalt.halts, cycles := s.takeHalt.cycles } ∧ s.takeHalt.noDma := by
  rcases h with h | h
  · have e : s.takeHalt = s := by simp [State.takeHalt, h]
    rw [e]
    exact ⟨rfl, .inl h⟩
  · cases hr : hasRdy s.cfg.part && s.resPin != .low
    · have e : s.takeHalt = s := by
        unfold State.takeHalt
        rw [hr]
        rfl
      rw [e]
      exact ⟨rfl, .inr h⟩
    · cases hs : s.halts with
      | nil =>
        have e : s.takeHalt = s := by simp [State.takeHalt, hs]
        rw [e]
        exact ⟨rfl, .inr h⟩
      | cons k rest =>
        have hk : k.acts = [] := h k (by simp [hs])
        have e : s.takeHalt = (s.setHalts rest).tick k.cycles := by
          unfold State.takeHalt
          rw [hr, hs]
          simp [hk, State.masterActs]
        rw [e]
        exact ⟨rfl, .inr fun j hj => h j (by rw [hs]; exact List.mem_cons_of_mem _ hj)⟩

theorem State.takeHalt_kept (s : State) (h : s.undisturbed) : Kept s s.takeHalt := by
  obtain ⟨e, hd⟩ := State.takeHalt_of_noDma s h.1
  have hm : s.takeHalt.mem = s.mem := by rw [e]
  have hp : s.takeHalt.plat = s.plat := by rw [e]
  refine ⟨hm, by rw [hp], hd, ?_⟩
  unfold State.devicesPassive
  rw [State.takeHalt_cfg, hp]
  exact h.2

theorem State.processorRead_kept (s : State) (addr : Word) (h : s.undisturbed) : Kept s (s.processorRead addr).st := by
  rcases State.processorRead_cases s addr with e | e
  · rw [e]
    exact ⟨rfl, rfl, h⟩
  · rw [e]
    exact State.platformRead_kept (s.setResPin s.resPin.next) addr h

theorem State.processorRead_passive (s : State) (addr : Word) (h : s.devicesPassive) :
    StaysPassive s (s.processorRead addr).st := by
  rcases State.processorRead_cases s addr with e | e
  · rw [e]
    exact ⟨rfl, rfl, h⟩
  · rw [e]
    exact State.platformRead_passive (s.setResPin s.resPin.next) addr h

/-- A read during which nothing else acts leaves memory, and what answers where, alone. -/
theorem State.busRead_kept (s : State) (addr : Word) (h : s.undisturbed) : Kept s (s.busRead addr).st :=
  have k := State.takeHalt_kept s h
  k.trans (State.processorRead_kept _ addr k.2.2)

theorem State.platformWrite_undisturbed (s : State) (addr : Word) (v : Byte) (h : s.undisturbed) :
    (s.platformWrite addr v).plat.state = s.plat.state ∧ (s.platformWrite addr v).undisturbed := by
  unfold State.platformWrite
  split
  · exact ⟨rfl, h⟩
  · exact ⟨rfl, h⟩
  · exact (State.deviceWrite_kept s addr v h).2
  · exact (State.deviceWrite_kept (s.store addr v) addr v h).2
  · exact (State.deviceWrite_kept s addr v h).2

/-- A write leaves what answers where alone. -/
theorem State.busWrite_undisturbed (s : State) (addr : Word) (v : Byte) (h : s.undisturbed) :
    (s.busWrite addr v).plat.state = s.plat.state ∧ (s.busWrite addr v).undisturbed := by
  rcases State.busWrite_cases s addr v with e | e
  · rw [e]
    exact ⟨rfl, h⟩
  · rw [e]
    exact State.platformWrite_undisturbed (s.setResPin s.resPin.next) addr v h

theorem State.push_undisturbed (s : State) (v : Byte) (h : s.undisturbed) :
    (s.push v).plat.state = s.plat.state ∧ (s.push v).undisturbed :=
  State.busWrite_undisturbed s (stackAddr s.sp) v h

/-! ## What a read of one byte sees after a write -/

theorem State.platformWrite_plat_of_plain (s : State) (addr : Word) (v : Byte) (hk : (s.kindAt addr).plain = true) :
    (s.platformWrite addr v).plat = s.plat := by
  unfold State.platformWrite
  split
  · rfl
  · rfl
  all_goals
    rename_i hx
    rw [hx] at hk
    cases hk

/-- A write to plain memory leaves the platform's state alone. -/
theorem State.busWrite_plat_of_plain (s : State) (addr : Word) (v : Byte) (hk : (s.kindAt addr).plain = true) :
    (s.busWrite addr v).plat = s.plat := by
  rcases State.busWrite_cases s addr v with e | e
  · rw [e]
    rfl
  · rw [e]
    exact State.platformWrite_plat_of_plain (s.setResPin s.resPin.next) addr v hk

theorem State.store_peek_other (s : State) (addr other : Word) (v : Byte) (h : s.cellAt other ≠ s.cellAt addr) :
    (s.store addr v).peek other = s.peek other :=
  Memory.read_write_other _ _ _ _ h

theorem State.peek_platformWrite_other (s : State) (addr other : Word) (v : Byte) (hk : (s.kindAt addr).plain = true)
    (h : s.cellAt other ≠ s.cellAt addr) : (s.platformWrite addr v).peek other = s.peek other := by
  unfold State.platformWrite
  split
  · exact State.store_peek_other s addr other v h
  · rfl
  all_goals
    rename_i hx
    rw [hx] at hk
    cases hk

/-- A write to plain memory leaves every other location alone. -/
theorem State.peek_busWrite_other (s : State) (addr other : Word) (v : Byte) (hk : (s.kindAt addr).plain = true)
    (h : s.cellAt other ≠ s.cellAt addr) : (s.busWrite addr v).peek other = s.peek other := by
  rcases State.busWrite_cases s addr v with e | e
  · rw [e]
    rfl
  · rw [e]
    exact State.peek_platformWrite_other (s.setResPin s.resPin.next) addr other v hk h

theorem State.peek_platformWrite_undisturbed (s : State) (addr other : Word) (v : Byte) (hu : s.undisturbed)
    (h : s.cellAt other ≠ s.cellAt addr) : (s.platformWrite addr v).peek other = s.peek other := by
  have dev : ∀ t : State, t.undisturbed → (t.deviceWrite addr v).peek other = t.peek other := fun t ht => by
    have k := State.deviceWrite_kept t addr v ht
    exact State.peek_congr (by rw [State.deviceWrite_frame]; rfl) k.2.1 k.1 other
  unfold State.platformWrite
  split
  · exact State.store_peek_other s addr other v h
  · rfl
  · exact dev s hu
  · exact (dev (s.store addr v) hu).trans (State.store_peek_other s addr other v h)
  · exact dev s hu

/-- So does any write while nothing but the processor changes memory. -/
theorem State.peek_busWrite_undisturbed (s : State) (addr other : Word) (v : Byte) (hu : s.undisturbed)
    (h : s.cellAt other ≠ s.cellAt addr) : (s.busWrite addr v).peek other = s.peek other := by
  rcases State.busWrite_cases s addr v with e | e
  · rw [e]
    rfl
  · rw [e]
    exact State.peek_platformWrite_undisturbed (s.setResPin s.resPin.next) addr other v hu h

/-- A write to RAM, RES being high, is read back, at every address that reaches the same location. -/
theorem State.peek_busWrite_same (s : State) (addr other : Word) (v : Byte) (hm : Memory.wf s.mem)
    (hr : s.resPin = .high) (hk : s.kindAt addr = .ram) (h : s.cellAt other = s.cellAt addr) :
    (s.busWrite addr v).peek other = v := by
  rw [State.busWrite_of_high s addr v hr]
  unfold State.platformWrite
  rw [hk]
  show Memory.read (Memory.write s.mem (s.cellAt addr) v) (s.cellAt other) = v
  rw [h]
  exact Memory.read_write_same _ _ _ hm

/-! ## Every memory operation keeps the invariant -/

@[simp] theorem State.inv_setA (s : State) (v : Byte) : (s.setA v).Inv ↔ s.Inv := Iff.rfl
@[simp] theorem State.inv_setX (s : State) (v : Byte) : (s.setX v).Inv ↔ s.Inv := Iff.rfl
@[simp] theorem State.inv_setY (s : State) (v : Byte) : (s.setY v).Inv ↔ s.Inv := Iff.rfl
@[simp] theorem State.inv_setSp (s : State) (v : Byte) : (s.setSp v).Inv ↔ s.Inv := Iff.rfl
@[simp] theorem State.inv_setPc (s : State) (w : Word) : (s.setPc w).Inv ↔ s.Inv := Iff.rfl
@[simp] theorem State.inv_setP (s : State) (f : Flags) : (s.setP f).Inv ↔ s.Inv := Iff.rfl
@[simp] theorem State.inv_setNmiPending (s : State) (b : Bool) : (s.setNmiPending b).Inv ↔ s.Inv := Iff.rfl
@[simp] theorem State.inv_setPriorMask (s : State) (m : Option Bool) : (s.setPriorMask m).Inv ↔ s.Inv := Iff.rfl
@[simp] theorem State.inv_setDraws (s : State) (n : Nat) : (s.setDraws n).Inv ↔ s.Inv := Iff.rfl
@[simp] theorem State.inv_setInputs (s : State) (l : List BoundaryInputs) : (s.setInputs l).Inv ↔ s.Inv := Iff.rfl
@[simp] theorem State.inv_setHalts (s : State) (l : List Halt) : (s.setHalts l).Inv ↔ s.Inv := Iff.rfl
@[simp] theorem State.inv_setResPin (s : State) (r : ResPin) : (s.setResPin r).Inv ↔ s.Inv := Iff.rfl
@[simp] theorem State.inv_tick (s : State) (n : Nat) : (s.tick n).Inv ↔ s.Inv := Iff.rfl
@[simp] theorem State.inv_setNZ (s : State) (v : Byte) : (s.setNZ v).Inv ↔ s.Inv := Iff.rfl
@[simp] theorem State.inv_advance (s : State) (len n : Nat) : (s.advance len n).Inv ↔ s.Inv := Iff.rfl

theorem busSize_pos (part : Part) : 0 < busSize part := Nat.two_pow_pos _

theorem State.busAddr_lt (s : State) (addr : Word) : s.busAddr addr < busSize s.cfg.part :=
  Nat.mod_lt _ (busSize_pos _)

/-- The location of an address is one the platform has. -/
theorem State.cellAt_has (s : State) (addr : Word) : platformHas s.cfg (s.cellAt addr) = true := by
  unfold platformHas State.cellAt
  cases hr : s.regionAt addr with
  | none => simp [State.busAddr_lt]
  | some r =>
    have hm := List.mem_of_find?_eq_some hr
    have hh := List.find?_some hr
    simp only [regionHolds, Bool.and_eq_true, decide_eq_true_eq] at hh
    show (decide (regionCell r (s.busAddr addr) < _) || _) = true
    unfold regionCell
    cases hc : r.cell with
    | none => simp [State.busAddr_lt]
    | some c =>
      refine Bool.or_eq_true_iff.2 (.inr (List.any_eq_true.2 ⟨r, hm, ?_⟩))
      unfold regionOwns
      simp only [hc, Bool.and_eq_true, decide_eq_true_eq]
      omega

/-- A byte stored at a location the platform has keeps the invariant. -/
theorem State.inv_write (s : State) (cell : Nat) (v : Byte) (hc : platformHas s.cfg cell = true) (h : s.Inv) :
    (s.setMem (Memory.write s.mem cell v)).Inv := by
  refine ⟨Memory.write_wf _ _ _ h.1, fun c hm => ?_⟩
  rcases Memory.mem_write _ _ _ c hm with hm | rfl
  · exact h.2 c hm
  · exact hc

@[simp] theorem State.inv_setPlat (s : State) (q : Platform) : (s.setPlat q).Inv ↔ s.Inv := Iff.rfl

theorem State.store_inv (s : State) (addr : Word) (v : Byte) (h : s.Inv) : (s.store addr v).Inv :=
  State.inv_write s _ v (State.cellAt_has s addr) h

theorem State.poke_inv (s : State) (cell : Nat) (v : Byte) (h : s.Inv) : (s.poke cell v).Inv := by
  unfold State.poke
  split
  · exact State.inv_write s cell v ‹_› h
  · exact h

theorem State.pokeAll_inv (s : State) (ps : List Poke) (h : s.Inv) : (s.pokeAll ps).Inv := by
  unfold State.pokeAll
  induction ps generalizing s with
  | nil => exact h
  | cons q ps ih => exact ih _ (State.poke_inv s q.cell q.val h)

theorem State.devicesMove_inv (s : State) (h : s.Inv) : s.devicesMove.Inv := by
  rw [State.devicesMove_plat_only]
  exact h

theorem State.follow_inv (s : State) (r : Option DeviceRule) (h : s.Inv) : (s.follow r).Inv := by
  cases r with
  | none => exact h
  | some r => exact State.pokeAll_inv s r.pokes h

theorem State.deviceRead_inv (s : State) (addr : Word) (behind : Option Byte) (h : s.Inv) :
    (s.deviceRead addr behind).st.Inv := by
  have k := State.follow_inv s.devicesMove (s.devicesMove.ruleFor addr .read) (State.devicesMove_inv s h)
  unfold State.deviceRead
  simp only []
  split <;> exact k

theorem State.deviceWrite_inv (s : State) (addr : Word) (v : Byte) (h : s.Inv) : (s.deviceWrite addr v).Inv :=
  State.follow_inv _ _ (State.devicesMove_inv s h)

theorem State.platformWrite_inv (s : State) (addr : Word) (v : Byte) (h : s.Inv) : (s.platformWrite addr v).Inv := by
  unfold State.platformWrite
  split
  · exact State.store_inv s addr v h
  · exact h
  · exact State.deviceWrite_inv s addr v h
  · exact State.deviceWrite_inv _ addr v (State.store_inv s addr v h)
  · exact State.deviceWrite_inv s addr v h

theorem State.platformRead_inv (s : State) (addr : Word) (h : s.Inv) : (s.platformRead addr).st.Inv := by
  unfold State.platformRead
  split
  · exact h
  · exact h
  all_goals exact State.deviceRead_inv s addr _ h

theorem State.masterActs_inv (s : State) (acts : List MasterAct) (h : s.Inv) : (s.masterActs acts).Inv := by
  unfold State.masterActs
  induction acts generalizing s with
  | nil => exact h
  | cons act acts ih =>
    refine ih _ ?_
    cases act with
    | read addr => exact State.platformRead_inv s addr h
    | write addr v => exact State.platformWrite_inv s addr v h
    | poke cell v => exact State.poke_inv s cell v h

theorem State.takeHalt_inv (s : State) (h : s.Inv) : s.takeHalt.Inv := by
  unfold State.takeHalt
  split
  · split
    · exact h
    · exact State.masterActs_inv _ _ h
  · exact h

theorem State.processorRead_inv (s : State) (addr : Word) (h : s.Inv) : (s.processorRead addr).st.Inv := by
  rcases State.processorRead_cases s addr with e | e
  · rw [e]
    exact h
  · rw [e]
    exact State.platformRead_inv (s.setResPin s.resPin.next) addr h

theorem State.busRead_inv (s : State) (addr : Word) (h : s.Inv) : (s.busRead addr).st.Inv :=
  State.processorRead_inv _ _ (State.takeHalt_inv s h)

theorem State.busWrite_inv (s : State) (addr : Word) (v : Byte) (h : s.Inv) : (s.busWrite addr v).Inv := by
  rcases State.busWrite_cases s addr v with e | e
  · rw [e]
    exact h
  · rw [e]
    exact State.platformWrite_inv (s.setResPin s.resPin.next) addr v h

theorem State.push_inv (s : State) (v : Byte) (h : s.Inv) : (s.push v).Inv :=
  State.busWrite_inv s _ v h

theorem State.pull_inv (s : State) (h : s.Inv) : s.pull.st.Inv :=
  State.busRead_inv _ _ h

theorem State.loadVector_inv (s : State) (vector : Word) (h : s.Inv) : (s.loadVector vector).Inv := by
  unfold State.loadVector
  exact (State.inv_setPc _ _).2 (State.busRead_inv _ _ (State.busRead_inv _ _ h))

theorem State.interrupt_inv (s : State) (vector : Word) (b : Bool) (h : s.Inv) : (s.interrupt vector b).Inv := by
  unfold State.interrupt
  have h3 := State.push_inv _ (s.p.image b) (State.push_inv _ (lo8 s.pc) (State.push_inv s (hi8 s.pc) h))
  exact (State.inv_setPriorMask _ _).2 (State.loadVector_inv _ _ ((State.inv_setP _ _).2 h3))

theorem State.returnFromInterrupt_inv (s : State) (h : s.Inv) : s.returnFromInterrupt.Inv := by
  unfold State.returnFromInterrupt
  exact (State.inv_setPc _ _).2 (State.pull_inv _ (State.pull_inv _ ((State.inv_setP _ _).2 (State.pull_inv s h))))

theorem State.resetSequence_inv (s : State) (w : ResetDraw) (h : s.Inv) : (s.resetSequence w).Inv := by
  unfold State.resetSequence
  refine (State.inv_tick _ _).2 ((State.inv_setPc _ _).2 (State.processorRead_inv _ _ (State.processorRead_inv _ _ ?_)))
  exact h

theorem State.placeBytes_inv (s : State) (addr : Word) (bytes : List Byte) (h : s.Inv) :
    (s.placeBytes addr bytes).Inv := by
  induction bytes generalizing s addr with
  | nil => exact h
  | cons b rest ih => exact ih _ _ (State.inv_write s _ b (by simp [platformHas, State.busAddr_lt]) h)

end Sys2Proof.Machine
end

