-- ==== Sys2Proof/Laws/Operands.lean ====
section
/-! SUPPORT. What the addressing modes and the shared operations of the families can do, said once (30_encoding.md R85 to
R97), and the effect of taking an exception and of a reset (60_exceptions.md R205, 70_reset_and_hazards.md R240). -/

namespace Sys2Proof.Machine

/-! ## Addressing modes change no processor state -/

theorem State.zeroPagePointer_busOnly (s : State) (b : Byte) : BusOnly s (s.zeroPagePointer b).st :=
  (State.busRead_busOnly s _).trans (State.busRead_busOnly _ _)

/-- Forming an address changes nothing but what its pointer reads may (R63). -/
theorem State.locate_busOnly (s : State) (addr : Address) : BusOnly s (s.locate addr).st := by
  cases addr
  case indX b => exact State.zeroPagePointer_busOnly s _
  case indY b => exact State.zeroPagePointer_busOnly s _
  all_goals rfl

/-- Reading an operand changes no processor state (R63). -/
theorem State.operand_busOnly (s : State) (o : Operand) : BusOnly s (s.operand o).st := by
  cases o
  case imm b => rfl
  case mem addr => exact (State.locate_busOnly s addr).trans (State.busRead_busOnly _ _)

@[simp] theorem State.zeroPagePointer_a (s : State) (b : Byte) : (s.zeroPagePointer b).st.a = s.a := by
  rw [State.zeroPagePointer_busOnly s b]
@[simp] theorem State.locate_a (s : State) (addr : Address) : (s.locate addr).st.a = s.a := by
  rw [State.locate_busOnly s addr]
@[simp] theorem State.operand_a (s : State) (o : Operand) : (s.operand o).st.a = s.a := by
  rw [State.operand_busOnly s o]
@[simp] theorem State.pageTick_a (s : State) (c : Bool) : (s.pageTick c).a = s.a := by cases c <;> rfl
@[simp] theorem State.zeroPagePointer_x (s : State) (b : Byte) : (s.zeroPagePointer b).st.x = s.x := by
  rw [State.zeroPagePointer_busOnly s b]
@[simp] theorem State.locate_x (s : State) (addr : Address) : (s.locate addr).st.x = s.x := by
  rw [State.locate_busOnly s addr]
@[simp] theorem State.operand_x (s : State) (o : Operand) : (s.operand o).st.x = s.x := by
  rw [State.operand_busOnly s o]
@[simp] theorem State.pageTick_x (s : State) (c : Bool) : (s.pageTick c).x = s.x := by cases c <;> rfl
@[simp] theorem State.zeroPagePointer_y (s : State) (b : Byte) : (s.zeroPagePointer b).st.y = s.y := by
  rw [State.zeroPagePointer_busOnly s b]
@[simp] theorem State.locate_y (s : State) (addr : Address) : (s.locate addr).st.y = s.y := by
  rw [State.locate_busOnly s addr]
@[simp] theorem State.operand_y (s : State) (o : Operand) : (s.operand o).st.y = s.y := by
  rw [State.operand_busOnly s o]
@[simp] theorem State.pageTick_y (s : State) (c : Bool) : (s.pageTick c).y = s.y := by cases c <;> rfl
@[simp] theorem State.zeroPagePointer_sp (s : State) (b : Byte) : (s.zeroPagePointer b).st.sp = s.sp := by
  rw [State.zeroPagePointer_busOnly s b]
@[simp] theorem State.locate_sp (s : State) (addr : Address) : (s.locate addr).st.sp = s.sp := by
  rw [State.locate_busOnly s addr]
@[simp] theorem State.operand_sp (s : State) (o : Operand) : (s.operand o).st.sp = s.sp := by
  rw [State.operand_busOnly s o]
@[simp] theorem State.pageTick_sp (s : State) (c : Bool) : (s.pageTick c).sp = s.sp := by cases c <;> rfl
@[simp] theorem State.zeroPagePointer_pc (s : State) (b : Byte) : (s.zeroPagePointer b).st.pc = s.pc := by
  rw [State.zeroPagePointer_busOnly s b]
@[simp] theorem State.locate_pc (s : State) (addr : Address) : (s.locate addr).st.pc = s.pc := by
  rw [State.locate_busOnly s addr]
@[simp] theorem State.operand_pc (s : State) (o : Operand) : (s.operand o).st.pc = s.pc := by
  rw [State.operand_busOnly s o]
@[simp] theorem State.pageTick_pc (s : State) (c : Bool) : (s.pageTick c).pc = s.pc := by cases c <;> rfl
@[simp] theorem State.zeroPagePointer_p (s : State) (b : Byte) : (s.zeroPagePointer b).st.p = s.p := by
  rw [State.zeroPagePointer_busOnly s b]
@[simp] theorem State.locate_p (s : State) (addr : Address) : (s.locate addr).st.p = s.p := by
  rw [State.locate_busOnly s addr]
@[simp] theorem State.operand_p (s : State) (o : Operand) : (s.operand o).st.p = s.p := by
  rw [State.operand_busOnly s o]
@[simp] theorem State.pageTick_p (s : State) (c : Bool) : (s.pageTick c).p = s.p := by cases c <;> rfl
@[simp] theorem State.zeroPagePointer_nmiPending (s : State) (b : Byte) : (s.zeroPagePointer b).st.nmiPending = s.nmiPending := by
  rw [State.zeroPagePointer_busOnly s b]
@[simp] theorem State.locate_nmiPending (s : State) (addr : Address) : (s.locate addr).st.nmiPending = s.nmiPending := by
  rw [State.locate_busOnly s addr]
@[simp] theorem State.operand_nmiPending (s : State) (o : Operand) : (s.operand o).st.nmiPending = s.nmiPending := by
  rw [State.operand_busOnly s o]
@[simp] theorem State.pageTick_nmiPending (s : State) (c : Bool) : (s.pageTick c).nmiPending = s.nmiPending := by cases c <;> rfl
@[simp] theorem State.zeroPagePointer_priorMask (s : State) (b : Byte) : (s.zeroPagePointer b).st.priorMask = s.priorMask := by
  rw [State.zeroPagePointer_busOnly s b]
@[simp] theorem State.locate_priorMask (s : State) (addr : Address) : (s.locate addr).st.priorMask = s.priorMask := by
  rw [State.locate_busOnly s addr]
@[simp] theorem State.operand_priorMask (s : State) (o : Operand) : (s.operand o).st.priorMask = s.priorMask := by
  rw [State.operand_busOnly s o]
@[simp] theorem State.pageTick_priorMask (s : State) (c : Bool) : (s.pageTick c).priorMask = s.priorMask := by cases c <;> rfl
@[simp] theorem State.zeroPagePointer_inputs (s : State) (b : Byte) : (s.zeroPagePointer b).st.inputs = s.inputs := by
  rw [State.zeroPagePointer_busOnly s b]
@[simp] theorem State.locate_inputs (s : State) (addr : Address) : (s.locate addr).st.inputs = s.inputs := by
  rw [State.locate_busOnly s addr]
@[simp] theorem State.operand_inputs (s : State) (o : Operand) : (s.operand o).st.inputs = s.inputs := by
  rw [State.operand_busOnly s o]
@[simp] theorem State.pageTick_inputs (s : State) (c : Bool) : (s.pageTick c).inputs = s.inputs := by cases c <;> rfl
@[simp] theorem State.zeroPagePointer_cfg (s : State) (b : Byte) : (s.zeroPagePointer b).st.cfg = s.cfg := by
  rw [State.zeroPagePointer_busOnly s b]
@[simp] theorem State.locate_cfg (s : State) (addr : Address) : (s.locate addr).st.cfg = s.cfg := by
  rw [State.locate_busOnly s addr]
@[simp] theorem State.operand_cfg (s : State) (o : Operand) : (s.operand o).st.cfg = s.cfg := by
  rw [State.operand_busOnly s o]
@[simp] theorem State.pageTick_cfg (s : State) (c : Bool) : (s.pageTick c).cfg = s.cfg := by cases c <;> rfl

theorem State.pageTick_cycles (s : State) (c : Bool) : (s.pageTick c).cycles = s.cycles + (if c then 1 else 0) := by
  cases c <;> rfl

@[simp] theorem State.pageTick_mem (s : State) (c : Bool) : (s.pageTick c).mem = s.mem := by cases c <;> rfl

/-! ## The invariant's memory form -/

theorem State.zeroPagePointer_inv (s : State) (b : Byte) (h : s.Inv) : (s.zeroPagePointer b).st.Inv :=
  State.busRead_inv _ _ (State.busRead_inv _ _ h)

theorem State.locate_inv (s : State) (addr : Address) (h : s.Inv) : (s.locate addr).st.Inv := by
  cases addr
  case indX b => exact State.zeroPagePointer_inv s _ h
  case indY b => exact State.zeroPagePointer_inv s _ h
  all_goals exact h

theorem State.operand_inv (s : State) (o : Operand) (h : s.Inv) : (s.operand o).st.Inv := by
  cases o
  case imm b => exact h
  case mem addr => exact State.busRead_inv _ _ (State.locate_inv s addr h)

theorem State.storeAt_inv (s : State) (addr : Address) (v : Byte) (h : s.Inv) : (s.storeAt addr v).Inv :=
  State.busWrite_inv _ _ _ (State.locate_inv s addr h)

theorem State.modifyAt_inv (s : State) (addr : Address) (f : Byte → Flags → ModifyOut) (h : s.Inv) :
    (s.modifyAt addr f).Inv := by
  unfold State.modifyAt
  exact (State.inv_setP _ _).2 (State.busWrite_inv _ _ _ (State.takeHalt_inv _ (State.busRead_inv _ _ (State.locate_inv s addr h))))

theorem State.pageTick_inv (s : State) (c : Bool) (h : s.Inv) : (s.pageTick c).Inv := by
  cases c <;> exact h

/-! ## No halt due stays so -/

theorem State.zeroPagePointer_notHeld (s : State) (b : Byte) (h : s.notHeld) : (s.zeroPagePointer b).st.notHeld :=
  State.busRead_notHeld _ _ (State.busRead_notHeld _ _ h)

theorem State.locate_notHeld (s : State) (addr : Address) (h : s.notHeld) : (s.locate addr).st.notHeld := by
  cases addr
  case indX b => exact State.zeroPagePointer_notHeld s _ h
  case indY b => exact State.zeroPagePointer_notHeld s _ h
  all_goals exact h

/-! ## While nothing but the processor changes memory -/

theorem State.zeroPagePointer_kept (s : State) (b : Byte) (h : s.undisturbed) : Kept s (s.zeroPagePointer b).st :=
  have k := State.busRead_kept s (zext b) h
  k.trans (State.busRead_kept _ _ k.2.2)

theorem State.locate_kept (s : State) (addr : Address) (h : s.undisturbed) : Kept s (s.locate addr).st := by
  cases addr
  case indX b => exact State.zeroPagePointer_kept s _ h
  case indY b => exact State.zeroPagePointer_kept s _ h
  all_goals exact ⟨rfl, rfl, h⟩

theorem State.operand_kept (s : State) (o : Operand) (h : s.undisturbed) : Kept s (s.operand o).st := by
  cases o
  case imm b => exact ⟨rfl, rfl, h⟩
  case mem addr =>
    have k := State.locate_kept s addr h
    exact k.trans (State.busRead_kept _ _ k.2.2)

theorem State.pull_kept (s : State) (h : s.undisturbed) : Kept s s.pull.st :=
  State.busRead_kept (s.setSp (s.sp + 1)) _ h

theorem State.pull_notHeld (s : State) (h : s.notHeld) : s.pull.st.notHeld :=
  State.busRead_notHeld _ _ h

/-! ## The sequences -/

theorem State.loadVector_frame (s : State) (vector : Word) :
    ∃ t, BusOnly s t ∧ s.loadVector vector = t.setPc (s.loadVector vector).pc := by
  refine ⟨((s.busRead vector).st.busRead (vector + 1)).st, ?_, rfl⟩
  exact (State.busRead_busOnly s _).trans (State.busRead_busOnly _ _)

@[simp] theorem State.loadVector_a (s : State) (vector : Word) : (s.loadVector vector).a = s.a := by
  obtain ⟨t, ht, h⟩ := State.loadVector_frame s vector
  rw [h, State.setPc_a, ht]
@[simp] theorem State.loadVector_x (s : State) (vector : Word) : (s.loadVector vector).x = s.x := by
  obtain ⟨t, ht, h⟩ := State.loadVector_frame s vector
  rw [h, State.setPc_x, ht]
@[simp] theorem State.loadVector_y (s : State) (vector : Word) : (s.loadVector vector).y = s.y := by
  obtain ⟨t, ht, h⟩ := State.loadVector_frame s vector
  rw [h, State.setPc_y, ht]
@[simp] theorem State.loadVector_sp (s : State) (vector : Word) : (s.loadVector vector).sp = s.sp := by
  obtain ⟨t, ht, h⟩ := State.loadVector_frame s vector
  rw [h, State.setPc_sp, ht]
@[simp] theorem State.loadVector_p (s : State) (vector : Word) : (s.loadVector vector).p = s.p := by
  obtain ⟨t, ht, h⟩ := State.loadVector_frame s vector
  rw [h, State.setPc_p, ht]
@[simp] theorem State.loadVector_nmiPending (s : State) (vector : Word) : (s.loadVector vector).nmiPending = s.nmiPending := by
  obtain ⟨t, ht, h⟩ := State.loadVector_frame s vector
  rw [h, State.setPc_nmiPending, ht]
@[simp] theorem State.loadVector_priorMask (s : State) (vector : Word) : (s.loadVector vector).priorMask = s.priorMask := by
  obtain ⟨t, ht, h⟩ := State.loadVector_frame s vector
  rw [h, State.setPc_priorMask, ht]
@[simp] theorem State.loadVector_inputs (s : State) (vector : Word) : (s.loadVector vector).inputs = s.inputs := by
  obtain ⟨t, ht, h⟩ := State.loadVector_frame s vector
  rw [h, State.setPc_inputs, ht]
@[simp] theorem State.loadVector_cfg (s : State) (vector : Word) : (s.loadVector vector).cfg = s.cfg := by
  obtain ⟨t, ht, h⟩ := State.loadVector_frame s vector
  rw [h, State.setPc_cfg, ht]
/-- What the interrupt sequence leaves in `a` (R205). -/
@[simp] theorem State.interrupt_a (s : State) (vector : Word) (b : Bool) :
    (s.interrupt vector b).a = s.a := by
  simp [State.interrupt]
/-- What the interrupt sequence leaves in `x` (R205). -/
@[simp] theorem State.interrupt_x (s : State) (vector : Word) (b : Bool) :
    (s.interrupt vector b).x = s.x := by
  simp [State.interrupt]
/-- What the interrupt sequence leaves in `y` (R205). -/
@[simp] theorem State.interrupt_y (s : State) (vector : Word) (b : Bool) :
    (s.interrupt vector b).y = s.y := by
  simp [State.interrupt]
/-- What the interrupt sequence leaves in `sp` (R205). -/
@[simp] theorem State.interrupt_sp (s : State) (vector : Word) (b : Bool) :
    (s.interrupt vector b).sp = s.sp - 1 - 1 - 1 := by
  simp [State.interrupt]
/-- What the interrupt sequence leaves in `p` (R205). -/
@[simp] theorem State.interrupt_p (s : State) (vector : Word) (b : Bool) :
    (s.interrupt vector b).p = { s.p with i := true } := by
  simp [State.interrupt]
/-- What the interrupt sequence leaves in `nmiPending` (R205). -/
@[simp] theorem State.interrupt_nmiPending (s : State) (vector : Word) (b : Bool) :
    (s.interrupt vector b).nmiPending = s.nmiPending := by
  simp [State.interrupt]
@[simp] theorem State.interrupt_priorMask (s : State) (vector : Word) (b : Bool) : (s.interrupt vector b).priorMask = none := rfl
/-- What the interrupt sequence leaves in `inputs` (R205). -/
@[simp] theorem State.interrupt_inputs (s : State) (vector : Word) (b : Bool) :
    (s.interrupt vector b).inputs = s.inputs := by
  simp [State.interrupt]
/-- What the interrupt sequence leaves in `cfg` (R205). -/
@[simp] theorem State.interrupt_cfg (s : State) (vector : Word) (b : Bool) :
    (s.interrupt vector b).cfg = s.cfg := by
  simp [State.interrupt]
/-- What the reset sequence leaves in `a` (R240, R241). -/
@[simp] theorem State.resetSequence_a (s : State) (w : ResetDraw) : (s.resetSequence w).a = w.a := by
  simp [State.resetSequence]
/-- What the reset sequence leaves in `x` (R240, R241). -/
@[simp] theorem State.resetSequence_x (s : State) (w : ResetDraw) : (s.resetSequence w).x = w.x := by
  simp [State.resetSequence]
/-- What the reset sequence leaves in `y` (R240, R241). -/
@[simp] theorem State.resetSequence_y (s : State) (w : ResetDraw) : (s.resetSequence w).y = w.y := by
  simp [State.resetSequence]
/-- What the reset sequence leaves in `sp` (R240, R241). -/
@[simp] theorem State.resetSequence_sp (s : State) (w : ResetDraw) : (s.resetSequence w).sp = w.s := by
  simp [State.resetSequence]
/-- What the reset sequence leaves in `p` (R240, R241). -/
@[simp] theorem State.resetSequence_p (s : State) (w : ResetDraw) : (s.resetSequence w).p = w.flags := by
  simp [State.resetSequence]
/-- What the reset sequence leaves in `nmiPending` (R240, R241). -/
@[simp] theorem State.resetSequence_nmiPending (s : State) (w : ResetDraw) : (s.resetSequence w).nmiPending = false := by
  simp [State.resetSequence]
/-- What the reset sequence leaves in `priorMask` (R240, R241). -/
@[simp] theorem State.resetSequence_priorMask (s : State) (w : ResetDraw) : (s.resetSequence w).priorMask = none := by
  simp [State.resetSequence]
/-- What the reset sequence leaves in `inputs` (R240, R241). -/
@[simp] theorem State.resetSequence_inputs (s : State) (w : ResetDraw) : (s.resetSequence w).inputs = s.inputs := by
  simp [State.resetSequence]
/-- What the reset sequence leaves in `cfg` (R240, R241). -/
@[simp] theorem State.resetSequence_cfg (s : State) (w : ResetDraw) : (s.resetSequence w).cfg = s.cfg := by
  simp [State.resetSequence]
/-- The reset sequence writes nothing (R243): memory is as before unless a device that its reads reach changes it. -/
theorem State.resetSequence_passive (s : State) (w : ResetDraw) (h : s.devicesPassive) :
    StaysPassive s (s.resetSequence w) := by
  unfold State.resetSequence
  simp only []
  have k := State.processorRead_passive { s with
    a := w.a, x := w.x, y := w.y, sp := w.s, p := w.flags, nmiPending := false, priorMask := none } resetVector h
  have k2 := State.processorRead_passive _ (resetVector + 1) k.2.2
  exact ⟨k2.1.trans k.1, k2.2.1.trans k.2.1, k2.2.2⟩

/-- What the reset sequence leaves in `halts` (R240, R241). -/
@[simp] theorem State.resetSequence_halts (s : State) (w : ResetDraw) : (s.resetSequence w).halts = s.halts := by
  simp [State.resetSequence]

end Sys2Proof.Machine
end

