-- ==== Sys2Proof/Laws/Effects.lean ====
section
/-! SUPPORT. What each operation that the meanings share can do, said once: what an instruction's effect is applied to,
what it may change, and that it keeps the invariant's memory form. -/

namespace Sys2Proof.Machine

/-! ## Instructions with an operand -/

/-- An instruction that reads an operand applies its effect to a state that differs from the one it starts in by bus
activity only. -/
theorem State.withOperand_spec (s : State) (o : Operand) (act : State → Byte → State) :
    ∃ u, BusOnly s u ∧ (s.Inv → u.Inv) ∧ (s.undisturbed → Kept s u) ∧
      s.withOperand o act = act u (s.operand o).val := by
  refine ⟨(s.operand o).st.pageTick (s.operand o).crossed, ?_, fun h => ?_, fun h => ?_, rfl⟩
  · refine (State.operand_busOnly s o).trans ?_
    cases (s.operand o).crossed <;> rfl
  · exact State.pageTick_inv _ _ (State.operand_inv s o h)
  · have k := State.operand_kept s o h
    cases (s.operand o).crossed <;> exact k

/-- A storing instruction writes one byte, in a state that differs by bus activity only. -/
theorem State.storeAt_spec (s : State) (addr : Address) (v : Byte) :
    ∃ u, BusOnly s u ∧ (s.undisturbed → Kept s u) ∧ s.storeAt addr v = u.busWrite (s.locate addr).ea v :=
  ⟨(s.locate addr).st, State.locate_busOnly s addr, State.locate_kept s addr, rfl⟩

/-- A read-modify-write instruction writes one byte and the flags, in a state that differs by bus activity only. -/
theorem State.modifyAt_spec (s : State) (addr : Address) (f : Byte → Flags → ModifyOut) :
    ∃ (u : State) (v : Byte), BusOnly s u ∧ (s.undisturbed → Kept s u) ∧
      s.modifyAt addr f = (u.busWrite (s.locate addr).ea (f v s.p).val).setP (f v s.p).p := by
  refine ⟨((s.locate addr).st.busRead (s.locate addr).ea).st.takeHalt, ((s.locate addr).st.busRead (s.locate addr).ea).val,
    ((State.locate_busOnly s addr).trans (State.busRead_busOnly _ _)).trans (State.takeHalt_busOnly _), fun h => ?_, ?_⟩
  · have k := State.locate_kept s addr h
    have k2 := k.trans (State.busRead_kept _ (s.locate addr).ea k.2.2)
    exact k2.trans (State.takeHalt_kept _ k2.2.2)
  · simp [State.modifyAt]

/-! ## Effects on registers -/

/-- ADC writes A and N, V, Z, C, and may draw free values (R48, R131, R133). -/
theorem State.addToA_spec (s : State) (m : Byte) : ∃ (n : Nat) (o : SumOut), s.addToA m = (s.setDraws n).putSum o := by
  unfold State.addToA
  split
  · exact ⟨_, _, rfl⟩
  · exact ⟨s.draws, _, rfl⟩

/-- SBC writes A and N, V, Z, C, and may draw free values (R48, R132, R133). -/
theorem State.subFromA_spec (s : State) (m : Byte) :
    ∃ (n : Nat) (o : SumOut), s.subFromA m = (s.setDraws n).putSum o := by
  unfold State.subFromA
  split
  · exact ⟨_, _, rfl⟩
  · exact ⟨s.draws, _, rfl⟩

/-- A branch writes PC and counts cycles (R160). -/
theorem State.branch_spec (s : State) (taken : Bool) (off : Byte) :
    ∃ (w : Word) (n : Nat), s.branch taken off = (s.setPc w).tick n := by
  unfold State.branch
  split
  · exact ⟨_, _, rfl⟩
  · exact ⟨s.pc, 0, rfl⟩

/-! ## Control transfers and the stack -/

/-- JMP indirect changes PC, and what its two reads may. -/
theorem State.jumpIndirect_spec (s : State) (w : Word) :
    ∃ u, BusOnly s u ∧ (s.undisturbed → Kept s u) ∧ s.jumpIndirect w = u.setPc (s.jumpIndirect w).pc := by
  refine ⟨((s.busRead w).st.busRead (s.nextPointerByte w)).st,
    (State.busRead_busOnly s w).trans (State.busRead_busOnly _ _), fun h => ?_, rfl⟩
  have k := State.busRead_kept s w h
  exact k.trans (State.busRead_kept _ _ k.2.2)

theorem State.jumpIndirect_inv (s : State) (w : Word) (h : s.Inv) : (s.jumpIndirect w).Inv := by
  unfold State.jumpIndirect
  exact (State.inv_setPc _ _).2 (State.busRead_inv _ _ (State.busRead_inv _ _ h))

/-- JSR changes PC, S and what its two writes may (R48, R170). -/
theorem State.callSubroutine_spec (s : State) (w : Word) :
    ∃ u, PushOnly s u ∧ u.sp = s.sp - 1 - 1 ∧ s.callSubroutine w = u.setPc w :=
  ⟨(s.push (hi8 (s.pc - 1))).push (lo8 (s.pc - 1)), (State.push_pushOnly _ _).trans (State.push_pushOnly _ _), by simp, rfl⟩

theorem State.callSubroutine_inv (s : State) (w : Word) (h : s.Inv) : (s.callSubroutine w).Inv := by
  unfold State.callSubroutine
  exact (State.inv_setPc _ _).2 (State.push_inv _ _ (State.push_inv _ _ h))

/-- RTS changes PC, S, and what its two reads may (R48, R171). -/
theorem State.returnFromSubroutine_spec (s : State) :
    ∃ u, BusOnly (s.setSp (s.sp + 1 + 1)) u ∧ (s.undisturbed → Kept s u) ∧
      s.returnFromSubroutine = u.setPc s.returnFromSubroutine.pc := by
  refine ⟨s.pull.st.pull.st, ?_, fun h => ?_, rfl⟩
  · unfold BusOnly
    rw [State.pull_busOnly s.pull.st, State.pull_busOnly s]
    rfl
  · have k := State.pull_kept s h
    exact k.trans (State.pull_kept _ k.2.2)

theorem State.returnFromSubroutine_inv (s : State) (h : s.Inv) : s.returnFromSubroutine.Inv := by
  unfold State.returnFromSubroutine
  exact (State.inv_setPc _ _).2 (State.pull_inv _ (State.pull_inv _ h))

/-- RTI changes PC, S, the six flags, and what its three reads may (R48, R194). -/
theorem State.returnFromInterrupt_spec (s : State) :
    ∃ u, BusOnly ((s.setSp (s.sp + 1 + 1 + 1)).setP (Flags.ofByte s.pull.val)) u ∧ (s.undisturbed → Kept s u) ∧
      s.returnFromInterrupt = u.setPc s.returnFromInterrupt.pc := by
  refine ⟨(s.pull.st.setP (Flags.ofByte s.pull.val)).pull.st.pull.st, ?_, fun h => ?_, rfl⟩
  · unfold BusOnly
    rw [State.pull_busOnly (State.pull _).st, State.pull_busOnly (s.pull.st.setP _), State.pull_busOnly s]
    rfl
  · have k := State.pull_kept s h
    have k2 := k.trans (State.pull_kept (s.pull.st.setP (Flags.ofByte s.pull.val)) k.2.2)
    exact k2.trans (State.pull_kept _ k2.2.2)

/-- PLA changes A, N, Z, S, and what its read may (R48, R183). -/
theorem State.pullA_spec (s : State) : s.pullA = (s.pull.st.setA s.pull.val).setNZ s.pull.val := rfl

/-- PLP changes the six flags, S, the mask held for one boundary, and what its read may (R48, R184, R208). -/
theorem State.pullP_spec (s : State) :
    s.pullP = (s.pull.st.setP (Flags.ofByte s.pull.val)).setPriorMask (some s.p.i) := rfl

/-- The interrupt sequence changes PC, S, P.I, and what its three writes and two vector reads may (R205). -/
theorem State.interrupt_spec (s : State) (vector : Word) (b : Bool) :
    ∃ (u v : State), PushOnly s u ∧ u.sp = s.sp - 1 - 1 - 1 ∧ BusOnly (u.setP { s.p with i := true }) v ∧
      (s.Inv → u.Inv) ∧ (s.undisturbed → u.plat.state = s.plat.state ∧ Kept u v) ∧
      u = ((s.push (hi8 s.pc)).push (lo8 s.pc)).push (s.p.image b) ∧
      s.interrupt vector b = (v.setPc (s.interrupt vector b).pc).setPriorMask none := by
  have hp : ((s.push (hi8 s.pc)).push (lo8 s.pc)).p = s.p := by simp
  refine ⟨((s.push (hi8 s.pc)).push (lo8 s.pc)).push (s.p.image b),
    ((((((s.push (hi8 s.pc)).push (lo8 s.pc)).push (s.p.image b)).setP { s.p with i := true }).busRead vector).st.busRead
      (vector + 1)).st, ?_, by simp, ?_, fun h => ?_, fun h => ?_, rfl, ?_⟩
  · exact ((State.push_pushOnly _ _).trans (State.push_pushOnly _ _)).trans (State.push_pushOnly _ _)
  · exact (State.busRead_busOnly _ _).trans (State.busRead_busOnly _ _)
  · exact State.push_inv _ _ (State.push_inv _ _ (State.push_inv _ _ h))
  · have k1 := State.push_undisturbed s (hi8 s.pc) h
    have k2 := State.push_undisturbed _ (lo8 s.pc) k1.2
    have k3 := State.push_undisturbed _ (s.p.image b) k2.2
    have k := State.busRead_kept
      ((((s.push (hi8 s.pc)).push (lo8 s.pc)).push (s.p.image b)).setP { s.p with i := true }) vector k3.2
    exact ⟨k3.1.trans (k2.1.trans k1.1), k.trans (State.busRead_kept _ (vector + 1) k.2.2)⟩
  · simp only [State.interrupt, hp, State.push_p]
    rfl

end Sys2Proof.Machine
end

