-- ==== Sys2Proof/Laws/PerInstr.lean ====
section
/-! SUPPORT. The family Encoding, proved for each instruction. -/

namespace Sys2Proof.Laws.Encoding

/-- The image of an instruction is well formed (30_encoding.md R80), it is as long as its mode says (R105), and its first
byte alone decides that length (R80, R105). -/
def Statement (i : Instr) : Prop :=
  imageWellFormed (encode i) = true ∧ (encode i).length = instrLength i ∧ opcodeLength (opcode i) = some (instrLength i)

theorem adcImm (m : Byte) : Statement (.adcImm m) := ⟨rfl, rfl, rfl⟩
theorem adcAbs (w : Word) : Statement (.adcAbs w) := ⟨rfl, rfl, rfl⟩
theorem adcZp (b : Byte) : Statement (.adcZp b) := ⟨rfl, rfl, rfl⟩
theorem adcIndX (b : Byte) : Statement (.adcIndX b) := ⟨rfl, rfl, rfl⟩
theorem adcIndY (b : Byte) : Statement (.adcIndY b) := ⟨rfl, rfl, rfl⟩
theorem adcZpX (b : Byte) : Statement (.adcZpX b) := ⟨rfl, rfl, rfl⟩
theorem adcAbsX (w : Word) : Statement (.adcAbsX w) := ⟨rfl, rfl, rfl⟩
theorem adcAbsY (w : Word) : Statement (.adcAbsY w) := ⟨rfl, rfl, rfl⟩
theorem andImm (m : Byte) : Statement (.andImm m) := ⟨rfl, rfl, rfl⟩
theorem andAbs (w : Word) : Statement (.andAbs w) := ⟨rfl, rfl, rfl⟩
theorem andZp (b : Byte) : Statement (.andZp b) := ⟨rfl, rfl, rfl⟩
theorem andIndX (b : Byte) : Statement (.andIndX b) := ⟨rfl, rfl, rfl⟩
theorem andIndY (b : Byte) : Statement (.andIndY b) := ⟨rfl, rfl, rfl⟩
theorem andZpX (b : Byte) : Statement (.andZpX b) := ⟨rfl, rfl, rfl⟩
theorem andAbsX (w : Word) : Statement (.andAbsX w) := ⟨rfl, rfl, rfl⟩
theorem andAbsY (w : Word) : Statement (.andAbsY w) := ⟨rfl, rfl, rfl⟩
theorem aslAbs (w : Word) : Statement (.aslAbs w) := ⟨rfl, rfl, rfl⟩
theorem aslZp (b : Byte) : Statement (.aslZp b) := ⟨rfl, rfl, rfl⟩
theorem aslAcc : Statement (.aslAcc) := ⟨rfl, rfl, rfl⟩
theorem aslZpX (b : Byte) : Statement (.aslZpX b) := ⟨rfl, rfl, rfl⟩
theorem aslAbsX (w : Word) : Statement (.aslAbsX w) := ⟨rfl, rfl, rfl⟩
theorem bcc (off : Byte) : Statement (.bcc off) := ⟨rfl, rfl, rfl⟩
theorem bcs (off : Byte) : Statement (.bcs off) := ⟨rfl, rfl, rfl⟩
theorem beq (off : Byte) : Statement (.beq off) := ⟨rfl, rfl, rfl⟩
theorem bitAbs (w : Word) : Statement (.bitAbs w) := ⟨rfl, rfl, rfl⟩
theorem bitZp (b : Byte) : Statement (.bitZp b) := ⟨rfl, rfl, rfl⟩
theorem bmi (off : Byte) : Statement (.bmi off) := ⟨rfl, rfl, rfl⟩
theorem bne (off : Byte) : Statement (.bne off) := ⟨rfl, rfl, rfl⟩
theorem bpl (off : Byte) : Statement (.bpl off) := ⟨rfl, rfl, rfl⟩
theorem brk : Statement (.brk) := ⟨rfl, rfl, rfl⟩
theorem bvc (off : Byte) : Statement (.bvc off) := ⟨rfl, rfl, rfl⟩
theorem bvs (off : Byte) : Statement (.bvs off) := ⟨rfl, rfl, rfl⟩
theorem clc : Statement (.clc) := ⟨rfl, rfl, rfl⟩
theorem cld : Statement (.cld) := ⟨rfl, rfl, rfl⟩
theorem cli : Statement (.cli) := ⟨rfl, rfl, rfl⟩
theorem clv : Statement (.clv) := ⟨rfl, rfl, rfl⟩
theorem cmpImm (m : Byte) : Statement (.cmpImm m) := ⟨rfl, rfl, rfl⟩
theorem cmpAbs (w : Word) : Statement (.cmpAbs w) := ⟨rfl, rfl, rfl⟩
theorem cmpZp (b : Byte) : Statement (.cmpZp b) := ⟨rfl, rfl, rfl⟩
theorem cmpIndX (b : Byte) : Statement (.cmpIndX b) := ⟨rfl, rfl, rfl⟩
theorem cmpIndY (b : Byte) : Statement (.cmpIndY b) := ⟨rfl, rfl, rfl⟩
theorem cmpZpX (b : Byte) : Statement (.cmpZpX b) := ⟨rfl, rfl, rfl⟩
theorem cmpAbsX (w : Word) : Statement (.cmpAbsX w) := ⟨rfl, rfl, rfl⟩
theorem cmpAbsY (w : Word) : Statement (.cmpAbsY w) := ⟨rfl, rfl, rfl⟩
theorem cpxImm (m : Byte) : Statement (.cpxImm m) := ⟨rfl, rfl, rfl⟩
theorem cpxAbs (w : Word) : Statement (.cpxAbs w) := ⟨rfl, rfl, rfl⟩
theorem cpxZp (b : Byte) : Statement (.cpxZp b) := ⟨rfl, rfl, rfl⟩
theorem cpyImm (m : Byte) : Statement (.cpyImm m) := ⟨rfl, rfl, rfl⟩
theorem cpyAbs (w : Word) : Statement (.cpyAbs w) := ⟨rfl, rfl, rfl⟩
theorem cpyZp (b : Byte) : Statement (.cpyZp b) := ⟨rfl, rfl, rfl⟩
theorem decAbs (w : Word) : Statement (.decAbs w) := ⟨rfl, rfl, rfl⟩
theorem decZp (b : Byte) : Statement (.decZp b) := ⟨rfl, rfl, rfl⟩
theorem decZpX (b : Byte) : Statement (.decZpX b) := ⟨rfl, rfl, rfl⟩
theorem decAbsX (w : Word) : Statement (.decAbsX w) := ⟨rfl, rfl, rfl⟩
theorem dex : Statement (.dex) := ⟨rfl, rfl, rfl⟩
theorem dey : Statement (.dey) := ⟨rfl, rfl, rfl⟩
theorem eorImm (m : Byte) : Statement (.eorImm m) := ⟨rfl, rfl, rfl⟩
theorem eorAbs (w : Word) : Statement (.eorAbs w) := ⟨rfl, rfl, rfl⟩
theorem eorZp (b : Byte) : Statement (.eorZp b) := ⟨rfl, rfl, rfl⟩
theorem eorIndX (b : Byte) : Statement (.eorIndX b) := ⟨rfl, rfl, rfl⟩
theorem eorIndY (b : Byte) : Statement (.eorIndY b) := ⟨rfl, rfl, rfl⟩
theorem eorZpX (b : Byte) : Statement (.eorZpX b) := ⟨rfl, rfl, rfl⟩
theorem eorAbsX (w : Word) : Statement (.eorAbsX w) := ⟨rfl, rfl, rfl⟩
theorem eorAbsY (w : Word) : Statement (.eorAbsY w) := ⟨rfl, rfl, rfl⟩
theorem incAbs (w : Word) : Statement (.incAbs w) := ⟨rfl, rfl, rfl⟩
theorem incZp (b : Byte) : Statement (.incZp b) := ⟨rfl, rfl, rfl⟩
theorem incZpX (b : Byte) : Statement (.incZpX b) := ⟨rfl, rfl, rfl⟩
theorem incAbsX (w : Word) : Statement (.incAbsX w) := ⟨rfl, rfl, rfl⟩
theorem inx : Statement (.inx) := ⟨rfl, rfl, rfl⟩
theorem iny : Statement (.iny) := ⟨rfl, rfl, rfl⟩
theorem jmpAbs (w : Word) : Statement (.jmpAbs w) := ⟨rfl, rfl, rfl⟩
theorem jmpInd (w : Word) : Statement (.jmpInd w) := ⟨rfl, rfl, rfl⟩
theorem jsr (w : Word) : Statement (.jsr w) := ⟨rfl, rfl, rfl⟩
theorem ldaImm (m : Byte) : Statement (.ldaImm m) := ⟨rfl, rfl, rfl⟩
theorem ldaAbs (w : Word) : Statement (.ldaAbs w) := ⟨rfl, rfl, rfl⟩
theorem ldaZp (b : Byte) : Statement (.ldaZp b) := ⟨rfl, rfl, rfl⟩
theorem ldaIndX (b : Byte) : Statement (.ldaIndX b) := ⟨rfl, rfl, rfl⟩
theorem ldaIndY (b : Byte) : Statement (.ldaIndY b) := ⟨rfl, rfl, rfl⟩
theorem ldaZpX (b : Byte) : Statement (.ldaZpX b) := ⟨rfl, rfl, rfl⟩
theorem ldaAbsX (w : Word) : Statement (.ldaAbsX w) := ⟨rfl, rfl, rfl⟩
theorem ldaAbsY (w : Word) : Statement (.ldaAbsY w) := ⟨rfl, rfl, rfl⟩
theorem ldxImm (m : Byte) : Statement (.ldxImm m) := ⟨rfl, rfl, rfl⟩
theorem ldxAbs (w : Word) : Statement (.ldxAbs w) := ⟨rfl, rfl, rfl⟩
theorem ldxZp (b : Byte) : Statement (.ldxZp b) := ⟨rfl, rfl, rfl⟩
theorem ldxAbsY (w : Word) : Statement (.ldxAbsY w) := ⟨rfl, rfl, rfl⟩
theorem ldxZpY (b : Byte) : Statement (.ldxZpY b) := ⟨rfl, rfl, rfl⟩
theorem ldyImm (m : Byte) : Statement (.ldyImm m) := ⟨rfl, rfl, rfl⟩
theorem ldyAbs (w : Word) : Statement (.ldyAbs w) := ⟨rfl, rfl, rfl⟩
theorem ldyZp (b : Byte) : Statement (.ldyZp b) := ⟨rfl, rfl, rfl⟩
theorem ldyZpX (b : Byte) : Statement (.ldyZpX b) := ⟨rfl, rfl, rfl⟩
theorem ldyAbsX (w : Word) : Statement (.ldyAbsX w) := ⟨rfl, rfl, rfl⟩
theorem lsrAbs (w : Word) : Statement (.lsrAbs w) := ⟨rfl, rfl, rfl⟩
theorem lsrZp (b : Byte) : Statement (.lsrZp b) := ⟨rfl, rfl, rfl⟩
theorem lsrAcc : Statement (.lsrAcc) := ⟨rfl, rfl, rfl⟩
theorem lsrZpX (b : Byte) : Statement (.lsrZpX b) := ⟨rfl, rfl, rfl⟩
theorem lsrAbsX (w : Word) : Statement (.lsrAbsX w) := ⟨rfl, rfl, rfl⟩
theorem nop : Statement (.nop) := ⟨rfl, rfl, rfl⟩
theorem oraImm (m : Byte) : Statement (.oraImm m) := ⟨rfl, rfl, rfl⟩
theorem oraAbs (w : Word) : Statement (.oraAbs w) := ⟨rfl, rfl, rfl⟩
theorem oraZp (b : Byte) : Statement (.oraZp b) := ⟨rfl, rfl, rfl⟩
theorem oraIndX (b : Byte) : Statement (.oraIndX b) := ⟨rfl, rfl, rfl⟩
theorem oraIndY (b : Byte) : Statement (.oraIndY b) := ⟨rfl, rfl, rfl⟩
theorem oraZpX (b : Byte) : Statement (.oraZpX b) := ⟨rfl, rfl, rfl⟩
theorem oraAbsX (w : Word) : Statement (.oraAbsX w) := ⟨rfl, rfl, rfl⟩
theorem oraAbsY (w : Word) : Statement (.oraAbsY w) := ⟨rfl, rfl, rfl⟩
theorem pha : Statement (.pha) := ⟨rfl, rfl, rfl⟩
theorem php : Statement (.php) := ⟨rfl, rfl, rfl⟩
theorem pla : Statement (.pla) := ⟨rfl, rfl, rfl⟩
theorem plp : Statement (.plp) := ⟨rfl, rfl, rfl⟩
theorem rolAbs (w : Word) : Statement (.rolAbs w) := ⟨rfl, rfl, rfl⟩
theorem rolZp (b : Byte) : Statement (.rolZp b) := ⟨rfl, rfl, rfl⟩
theorem rolAcc : Statement (.rolAcc) := ⟨rfl, rfl, rfl⟩
theorem rolZpX (b : Byte) : Statement (.rolZpX b) := ⟨rfl, rfl, rfl⟩
theorem rolAbsX (w : Word) : Statement (.rolAbsX w) := ⟨rfl, rfl, rfl⟩
theorem rorAbs (w : Word) : Statement (.rorAbs w) := ⟨rfl, rfl, rfl⟩
theorem rorZp (b : Byte) : Statement (.rorZp b) := ⟨rfl, rfl, rfl⟩
theorem rorAcc : Statement (.rorAcc) := ⟨rfl, rfl, rfl⟩
theorem rorZpX (b : Byte) : Statement (.rorZpX b) := ⟨rfl, rfl, rfl⟩
theorem rorAbsX (w : Word) : Statement (.rorAbsX w) := ⟨rfl, rfl, rfl⟩
theorem rti : Statement (.rti) := ⟨rfl, rfl, rfl⟩
theorem rts : Statement (.rts) := ⟨rfl, rfl, rfl⟩
theorem sbcImm (m : Byte) : Statement (.sbcImm m) := ⟨rfl, rfl, rfl⟩
theorem sbcAbs (w : Word) : Statement (.sbcAbs w) := ⟨rfl, rfl, rfl⟩
theorem sbcZp (b : Byte) : Statement (.sbcZp b) := ⟨rfl, rfl, rfl⟩
theorem sbcIndX (b : Byte) : Statement (.sbcIndX b) := ⟨rfl, rfl, rfl⟩
theorem sbcIndY (b : Byte) : Statement (.sbcIndY b) := ⟨rfl, rfl, rfl⟩
theorem sbcZpX (b : Byte) : Statement (.sbcZpX b) := ⟨rfl, rfl, rfl⟩
theorem sbcAbsX (w : Word) : Statement (.sbcAbsX w) := ⟨rfl, rfl, rfl⟩
theorem sbcAbsY (w : Word) : Statement (.sbcAbsY w) := ⟨rfl, rfl, rfl⟩
theorem sec : Statement (.sec) := ⟨rfl, rfl, rfl⟩
theorem sed : Statement (.sed) := ⟨rfl, rfl, rfl⟩
theorem sei : Statement (.sei) := ⟨rfl, rfl, rfl⟩
theorem staAbs (w : Word) : Statement (.staAbs w) := ⟨rfl, rfl, rfl⟩
theorem staZp (b : Byte) : Statement (.staZp b) := ⟨rfl, rfl, rfl⟩
theorem staIndX (b : Byte) : Statement (.staIndX b) := ⟨rfl, rfl, rfl⟩
theorem staIndY (b : Byte) : Statement (.staIndY b) := ⟨rfl, rfl, rfl⟩
theorem staZpX (b : Byte) : Statement (.staZpX b) := ⟨rfl, rfl, rfl⟩
theorem staAbsX (w : Word) : Statement (.staAbsX w) := ⟨rfl, rfl, rfl⟩
theorem staAbsY (w : Word) : Statement (.staAbsY w) := ⟨rfl, rfl, rfl⟩
theorem stxAbs (w : Word) : Statement (.stxAbs w) := ⟨rfl, rfl, rfl⟩
theorem stxZp (b : Byte) : Statement (.stxZp b) := ⟨rfl, rfl, rfl⟩
theorem stxZpY (b : Byte) : Statement (.stxZpY b) := ⟨rfl, rfl, rfl⟩
theorem styAbs (w : Word) : Statement (.styAbs w) := ⟨rfl, rfl, rfl⟩
theorem styZp (b : Byte) : Statement (.styZp b) := ⟨rfl, rfl, rfl⟩
theorem styZpX (b : Byte) : Statement (.styZpX b) := ⟨rfl, rfl, rfl⟩
theorem tax : Statement (.tax) := ⟨rfl, rfl, rfl⟩
theorem tay : Statement (.tay) := ⟨rfl, rfl, rfl⟩
theorem tsx : Statement (.tsx) := ⟨rfl, rfl, rfl⟩
theorem txa : Statement (.txa) := ⟨rfl, rfl, rfl⟩
theorem txs : Statement (.txs) := ⟨rfl, rfl, rfl⟩
theorem tya : Statement (.tya) := ⟨rfl, rfl, rfl⟩

end Sys2Proof.Laws.Encoding
end

