-- ==== Sys2Proof/Laws/Status.lean ====
section
/-! SUPPORT. The bus and the addressing modes do not look at P: replacing P commutes with each of them (10_state.md
R32). -/

namespace Sys2Proof.Machine

@[simp] theorem State.poke_setP (s : State) (f : Flags) (cell : Nat) (v : Byte) :
    (s.setP f).poke cell v = (s.poke cell v).setP f := by
  unfold State.poke
  rw [State.setP_cfg]
  split <;> rfl

@[simp] theorem State.pokeAll_setP (s : State) (f : Flags) (ps : List Poke) :
    (s.setP f).pokeAll ps = (s.pokeAll ps).setP f := by
  unfold State.pokeAll
  induction ps generalizing s with
  | nil => rfl
  | cons q ps ih => rw [List.foldl_cons, State.poke_setP, ih, List.foldl_cons]

@[simp] theorem State.devicesMove_setP (s : State) (f : Flags) : (s.setP f).devicesMove = s.devicesMove.setP f := by
  unfold State.devicesMove
  rw [State.setP_plat]
  split <;> rfl

@[simp] theorem State.follow_setP (s : State) (f : Flags) (r : Option DeviceRule) :
    (s.setP f).follow r = (s.follow r).setP f := by
  cases r with
  | none => rfl
  | some r =>
    unfold State.follow
    simp only [State.pokeAll_setP]
    rfl

theorem State.deviceRead_setP (s : State) (f : Flags) (addr : Word) (behind : Option Byte) :
    (s.setP f).deviceRead addr behind =
      { val := (s.deviceRead addr behind).val, st := (s.deviceRead addr behind).st.setP f } := by
  have e : ∀ t : State, (t.setP f).ruleFor addr .read = t.ruleFor addr .read := fun _ => rfl
  unfold State.deviceRead
  simp only [State.devicesMove_setP, e, State.follow_setP]
  split <;> rfl

theorem State.deviceWrite_setP (s : State) (f : Flags) (addr : Word) (v : Byte) :
    (s.setP f).deviceWrite addr v = (s.deviceWrite addr v).setP f := by
  have e : ∀ t : State, (t.setP f).ruleFor addr (.write v) = t.ruleFor addr (.write v) := fun _ => rfl
  unfold State.deviceWrite
  simp only [State.devicesMove_setP, e, State.follow_setP]

@[simp] theorem State.platformRead_setP (s : State) (f : Flags) (addr : Word) :
    (s.setP f).platformRead addr = { val := (s.platformRead addr).val, st := (s.platformRead addr).st.setP f } := by
  unfold State.platformRead
  rw [State.kindAt_setP, State.peek_setP]
  split
  · rfl
  · rfl
  all_goals exact State.deviceRead_setP s f addr _

@[simp] theorem State.platformWrite_setP (s : State) (f : Flags) (addr : Word) (v : Byte) :
    (s.setP f).platformWrite addr v = (s.platformWrite addr v).setP f := by
  unfold State.platformWrite
  rw [State.kindAt_setP]
  split
  · rfl
  · rfl
  · exact State.deviceWrite_setP s f addr v
  · exact State.deviceWrite_setP (s.store addr v) f addr v
  · exact State.deviceWrite_setP s f addr v

theorem State.masterAct_setP (s : State) (f : Flags) (act : MasterAct) :
    (s.setP f).masterAct act = (s.masterAct act).setP f := by
  cases act with
  | read addr =>
    show ((s.setP f).platformRead addr).st = _
    rw [State.platformRead_setP]
    rfl
  | write addr v => exact State.platformWrite_setP s f addr v
  | poke cell v => exact State.poke_setP s f cell v

@[simp] theorem State.masterActs_setP (s : State) (f : Flags) (acts : List MasterAct) :
    (s.setP f).masterActs acts = (s.masterActs acts).setP f := by
  unfold State.masterActs
  induction acts generalizing s with
  | nil => rfl
  | cons act acts ih => rw [List.foldl_cons, State.masterAct_setP, ih, List.foldl_cons]

@[simp] theorem State.takeHalt_setP (s : State) (f : Flags) : (s.setP f).takeHalt = s.takeHalt.setP f := by
  unfold State.takeHalt
  rw [State.setP_cfg, State.setP_halts, State.setP_resPin]
  split
  · split
    · rfl
    · exact State.masterActs_setP ((s.setHalts _).tick _) f _
  · rfl

@[simp] theorem State.processorRead_setP (s : State) (f : Flags) (addr : Word) :
    (s.setP f).processorRead addr = { val := (s.processorRead addr).val, st := (s.processorRead addr).st.setP f } := by
  have e : ∀ r, (s.setP f).setResPin r = (s.setResPin r).setP f := fun _ => rfl
  unfold State.processorRead
  simp only [State.setP_resPin, e, State.setP_draws, State.platformRead_setP]
  split <;> rfl

/-- A read cycle does not look at P. -/
@[simp] theorem State.busRead_setP (s : State) (f : Flags) (addr : Word) :
    (s.setP f).busRead addr = { val := (s.busRead addr).val, st := (s.busRead addr).st.setP f } := by
  unfold State.busRead
  rw [State.takeHalt_setP, State.processorRead_setP]

/-- A write cycle does not look at P. -/
@[simp] theorem State.busWrite_setP (s : State) (f : Flags) (addr : Word) (v : Byte) :
    (s.setP f).busWrite addr v = (s.busWrite addr v).setP f := by
  have e : ∀ r, (s.setP f).setResPin r = (s.setResPin r).setP f := fun _ => rfl
  unfold State.busWrite
  simp only [State.setP_resPin, e, State.platformWrite_setP]
  split <;> rfl

@[simp] theorem State.push_setP (s : State) (f : Flags) (v : Byte) : (s.setP f).push v = (s.push v).setP f := by
  unfold State.push
  rw [State.setP_sp, State.busWrite_setP]
  rfl

@[simp] theorem State.pull_setP (s : State) (f : Flags) :
    (s.setP f).pull = { val := s.pull.val, st := s.pull.st.setP f } :=
  State.busRead_setP (s.setSp (s.sp + 1)) f _

theorem State.zeroPagePointer_setP (s : State) (f : Flags) (b : Byte) :
    (s.setP f).zeroPagePointer b =
      { ea := (s.zeroPagePointer b).ea, crossed := false, st := (s.zeroPagePointer b).st.setP f } := by
  simp only [State.zeroPagePointer, State.busRead_setP]

/-- No addressing mode looks at P. -/
@[simp] theorem State.locate_setP (s : State) (f : Flags) (addr : Address) :
    (s.setP f).locate addr =
      { ea := (s.locate addr).ea, crossed := (s.locate addr).crossed, st := (s.locate addr).st.setP f } := by
  cases addr
  case indX b => exact State.zeroPagePointer_setP s f _
  case indY b =>
    simp only [State.locate, State.zeroPagePointer_setP, State.setP_y]
  all_goals rfl

/-- Reading an operand does not look at P. -/
@[simp] theorem State.operand_setP (s : State) (f : Flags) (o : Operand) :
    (s.setP f).operand o =
      { val := (s.operand o).val, crossed := (s.operand o).crossed, st := (s.operand o).st.setP f } := by
  cases o
  case imm b => rfl
  case mem addr => simp only [State.operand, State.locate_setP, State.busRead_setP]

end Sys2Proof.Machine
end

