-- ==== Sys2Proof/Laws/Step.lean ====
section
/-! SUPPORT. What fetching an instruction and polling a boundary can do, said once. -/

namespace Sys2Proof.Machine

theorem State.readBytes_length (s : State) (addr : Word) (n : Nat) : (s.readBytes addr n).1.length = n := by
  induction n generalizing s addr with
  | zero => rfl
  | succ n ih =>
    simp only [State.readBytes, List.length_cons]
    rw [ih]

/-- Reading bytes in a row changes nothing but what each read may. -/
theorem State.readBytes_busOnly (s : State) (addr : Word) (n : Nat) : BusOnly s (s.readBytes addr n).2 := by
  induction n generalizing s addr with
  | zero => rfl
  | succ n ih => exact (State.busRead_busOnly s addr).trans (ih _ _)

theorem State.readBytes_inv (s : State) (addr : Word) (n : Nat) (h : s.Inv) : (s.readBytes addr n).2.Inv := by
  induction n generalizing s addr with
  | zero => exact h
  | succ n ih => exact ih _ _ (State.busRead_inv s addr h)

theorem State.readBytes_kept (s : State) (addr : Word) (n : Nat) (h : s.undisturbed) :
    Kept s (s.readBytes addr n).2 := by
  induction n generalizing s addr with
  | zero => exact ⟨rfl, rfl, h⟩
  | succ n ih =>
    have k := State.busRead_kept s addr h
    exact k.trans (ih _ _ k.2.2)

/-- A fetch that answers a state has read an instruction's bytes, or as many as RES let it, and nothing else has happened. -/
theorem State.fetch_spec (s u : State) (h : s.fetch = .cutShort u ∨ ∃ i, s.fetch = .instr i u) :
    BusOnly s u ∧ (s.Inv → u.Inv) ∧ (s.undisturbed → Kept s u) := by
  have one : BusOnly s (s.busRead s.pc).st ∧ (s.Inv → (s.busRead s.pc).st.Inv) ∧
      (s.undisturbed → Kept s (s.busRead s.pc).st) :=
    ⟨State.busRead_busOnly s _, State.busRead_inv s _, State.busRead_kept s _⟩
  simp only [State.fetch] at h
  split at h
  · rcases h with h | ⟨i, h⟩
    · cases h
      exact one
    · cases h
  · split at h
    · rcases h with h | ⟨i, h⟩ <;> cases h
    · split at h
      · rcases h with h | ⟨i, h⟩
        · cases h
        · cases h
          exact ⟨one.1.trans (State.readBytes_busOnly _ _ _), fun k => State.readBytes_inv _ _ _ (one.2.1 k),
            fun k => (one.2.2 k).trans (State.readBytes_kept _ _ _ (one.2.2 k).2.2)⟩
      · rcases h with h | ⟨i, h⟩ <;> cases h

/-- Sampling S.O. writes V, and nothing else (R218). -/
theorem State.sampleSo_spec (s : State) (inp : BoundaryInputs) :
    s.sampleSo inp = s.setP { s.p with v := s.p.v || (hasSo s.cfg.part && inp.soEdge) } := by
  unfold State.sampleSo
  cases hasSo s.cfg.part && inp.soEdge <;> simp [State.setP]

/-- Sampling NMI writes the pending bit, and nothing else (R41). -/
theorem State.sampleNmi_spec (s : State) (inp : BoundaryInputs) :
    s.sampleNmi inp = s.setNmiPending (s.nmiPending || (hasNmi s.cfg.part && inp.nmiEdge)) := by
  unfold State.sampleNmi
  cases hasNmi s.cfg.part && inp.nmiEdge <;> simp [State.setNmiPending]

@[simp] theorem State.endStep_resPin (t s : State) : (t.endStep s).resPin = .high := rfl

@[simp] theorem State.afterCuts_cfg (t : State) (start : Nat) (cuts : List ResetCut) :
    (t.afterCuts start cuts).cfg = t.cfg := by
  induction cuts generalizing t start with
  | nil => rfl
  | cons cut rest ih => exact (ih _ _).trans (State.resetSequence_cfg _ _)

theorem State.afterCuts_inv (t : State) (start : Nat) (cuts : List ResetCut) (h : t.Inv) : (t.afterCuts start cuts).Inv := by
  induction cuts generalizing t start with
  | nil => exact h
  | cons cut rest ih => exact ih _ _ (State.resetSequence_inv _ _ h)

@[simp] theorem State.endStep_cfg (t s : State) : (t.endStep s).cfg = t.cfg := State.afterCuts_cfg _ _ _

/-- What ends a step keeps the invariant's memory form (R217, R370). -/
theorem State.endStep_inv (t s : State) (h : t.Inv) : (t.endStep s).Inv := State.afterCuts_inv t _ _ h

/-- A clock that moves no device leaves the platform as it is. -/
theorem clockDevices_of_still (rules : List ClockRule) (n state : Nat) (h : ∀ r ∈ rules, r.next = r.state) :
    clockDevices rules n state = state := by
  induction n with
  | zero => rfl
  | succ n ih =>
    unfold clockDevices
    split
    · exact ih
    · rename_i r hr
      have hs := List.find?_some hr
      rw [h r (List.mem_of_find?_eq_some hr), beq_iff_eq.1 hs]
      exact ih

/-- With no reset under way, and with a clock that moves no device, the end of a step leaves RES high and changes
nothing else. -/
theorem State.endStep_of_still (t s : State) (hc : s.currentInputs.cuts = []) (h : ∀ r ∈ t.cfg.clocks, r.next = r.state) :
    t.endStep s = t.setResPin .high := by
  unfold State.endStep
  rw [hc]
  unfold State.afterCuts State.passTime
  simp only [clockDevices_of_still _ _ _ h]
  rfl

/-- A boundary keeps the invariant's memory form, whatever it leads to. -/
theorem State.poll_inv (s : State) (h : s.Inv) :
    (∀ t, s.poll = .event t → t.Inv) ∧ ∀ t, s.poll = .execute t → t.Inv := by
  have k : ((((s.setInputs s.inputs.tail).platformMoved s.currentInputs.devices).setResPin
      (resPinOf s.currentInputs.cuts)).sampleSo s.currentInputs |>.sampleNmi s.currentInputs).Inv := by
    rw [State.sampleNmi_spec, State.sampleSo_spec]
    exact h
  unfold State.poll
  simp only []
  split
  · refine ⟨fun t e => ?_, fun t e => ?_⟩
    · cases e
      exact State.resetSequence_inv _ _ h
    · cases e
  · split
    · refine ⟨fun t e => ?_, fun t e => ?_⟩
      · cases e
        exact State.interrupt_inv _ _ _ k
      · cases e
    · split
      · refine ⟨fun t e => ?_, fun t e => ?_⟩
        · cases e
          exact State.interrupt_inv _ _ _ k
        · cases e
      · refine ⟨fun t e => ?_, fun t e => ?_⟩
        · cases e
        · cases e
          exact k

end Sys2Proof.Machine
end

