-- ==== Sys2Proof/Tests/Slice0.lean ====
section
/-! SUPPORT. The model's own tests. Expected results come from the opcode table and from the vectors of 95_test_vectors.md,
each named by its row there; the witnesses show that the hypotheses of each statement can be met. -/

namespace Sys2Proof.Tests

open Sys2Proof.Machine Sys2Proof.Claims

/-! ## Well-formedness -/

theorem test_no_byte_is_no_image : imageWellFormed [] = false := rfl
theorem test_four_bytes_are_no_image : imageWellFormed [0x4C, 0x34, 0x12, 0xEA] = false := rfl
theorem test_three_bytes_are_an_image : imageWellFormed [0x4C, 0x34, 0x12] = true := rfl

/-! ## Helpers -/

/-- Each list of bytes decodes to its instruction with nothing left over, and encodes back. -/
def decodesAll (rows : List (List Byte × Instr)) : Bool :=
  rows.all fun q =>
    match decode q.1 with
    | .ok (i, rest) => i == q.2 && rest.isEmpty && encode q.2 == q.1
    | .error _ => false

/-- The registers A, X, Y, S of a vector. -/
structure Regs where
  a  : Byte
  x  : Byte
  y  : Byte
  sp : Byte
deriving DecidableEq, Repr

/-- Six flags from the string NVDIZC of a vector. -/
def flagsOf (k : Nat) : Flags :=
  { n := k.testBit 5, v := k.testBit 4, d := k.testBit 3, i := k.testBit 2, z := k.testBit 1, c := k.testBit 0 }

/-- Memory holding the given cells. -/
def memoryOf (cells : List Host.Cell) : Memory := cells.foldl (fun m c => Memory.write m c.1 c.2) []

/-- The start state of a vector: an instruction's bytes at an address, registers, flags, and memory cells. -/
def start (pc : Word) (bytes : List Byte) (r : Regs) (flags : Nat) (cells : List Host.Cell) : State :=
  let code := bytes.zipIdx.map fun q => ((pc.toNat + q.2) % 65536, q.1)
  { State.reset with
    a := r.a, x := r.x, y := r.y, sp := r.sp, pc := pc, p := flagsOf flags, mem := memoryOf (code ++ cells) }

/-- The same with DECIMAL_FLAGS = nmos. -/
def startNmos (pc : Word) (bytes : List Byte) (r : Regs) (flags : Nat) (cells : List Host.Cell) : State :=
  { start pc bytes r flags cells with cfg := { decimalFlags := .nmos } }

/-- One step ends with these registers, PC and flags, these writes and no other, in so many cycles. -/
def ends (s : State) (r : Regs) (pc : Word) (flags : Nat) (writes : List Host.Cell) (cycles : Nat) : Bool :=
  match step s with
  | .next t =>
    decide (t.a = r.a ∧ t.x = r.x ∧ t.y = r.y ∧ t.sp = r.sp ∧ t.pc = pc ∧ t.p = flagsOf flags ∧
      t.mem = writes.foldl (fun m c => Memory.write m c.1 c.2) s.mem ∧ t.cycles = s.cycles + cycles)
  | .fault _ => false
  | .refused _ => false

/-! ## Decoding: one word of every row, written out from the opcode table (R100, R83) -/

theorem test_decode_loads : decodesAll [
    ([0xA1, 0x84], .ldaIndX 0x84), ([0xA5, 0x84], .ldaZp 0x84), ([0xA9, 0x84], .ldaImm 0x84),
    ([0xAD, 0x34, 0x92], .ldaAbs 0x9234), ([0xB1, 0x84], .ldaIndY 0x84), ([0xB5, 0x84], .ldaZpX 0x84),
    ([0xB9, 0x34, 0x92], .ldaAbsY 0x9234), ([0xBD, 0x34, 0x92], .ldaAbsX 0x9234), ([0xA2, 0x84], .ldxImm 0x84),
    ([0xA6, 0x84], .ldxZp 0x84), ([0xAE, 0x34, 0x92], .ldxAbs 0x9234), ([0xB6, 0x84], .ldxZpY 0x84),
    ([0xBE, 0x34, 0x92], .ldxAbsY 0x9234), ([0xA0, 0x84], .ldyImm 0x84), ([0xA4, 0x84], .ldyZp 0x84),
    ([0xAC, 0x34, 0x92], .ldyAbs 0x9234), ([0xB4, 0x84], .ldyZpX 0x84), ([0xBC, 0x34, 0x92], .ldyAbsX 0x9234)] := rfl
theorem test_decode_stores : decodesAll [
    ([0x81, 0x84], .staIndX 0x84), ([0x85, 0x84], .staZp 0x84), ([0x8D, 0x34, 0x92], .staAbs 0x9234),
    ([0x91, 0x84], .staIndY 0x84), ([0x95, 0x84], .staZpX 0x84), ([0x99, 0x34, 0x92], .staAbsY 0x9234),
    ([0x9D, 0x34, 0x92], .staAbsX 0x9234), ([0x86, 0x84], .stxZp 0x84), ([0x8E, 0x34, 0x92], .stxAbs 0x9234),
    ([0x96, 0x84], .stxZpY 0x84), ([0x84, 0x84], .styZp 0x84), ([0x8C, 0x34, 0x92], .styAbs 0x9234),
    ([0x94, 0x84], .styZpX 0x84)] := rfl
theorem test_decode_transfers : decodesAll [
    ([0xAA], .tax), ([0xA8], .tay), ([0xBA], .tsx), ([0x8A], .txa), ([0x9A], .txs), ([0x98], .tya)] := rfl
theorem test_decode_addition_subtraction : decodesAll [
    ([0x61, 0x84], .adcIndX 0x84), ([0x65, 0x84], .adcZp 0x84), ([0x69, 0x84], .adcImm 0x84),
    ([0x6D, 0x34, 0x92], .adcAbs 0x9234), ([0x71, 0x84], .adcIndY 0x84), ([0x75, 0x84], .adcZpX 0x84),
    ([0x79, 0x34, 0x92], .adcAbsY 0x9234), ([0x7D, 0x34, 0x92], .adcAbsX 0x9234), ([0xE1, 0x84], .sbcIndX 0x84),
    ([0xE5, 0x84], .sbcZp 0x84), ([0xE9, 0x84], .sbcImm 0x84), ([0xED, 0x34, 0x92], .sbcAbs 0x9234),
    ([0xF1, 0x84], .sbcIndY 0x84), ([0xF5, 0x84], .sbcZpX 0x84), ([0xF9, 0x34, 0x92], .sbcAbsY 0x9234),
    ([0xFD, 0x34, 0x92], .sbcAbsX 0x9234)] := rfl
theorem test_decode_logic : decodesAll [
    ([0x21, 0x84], .andIndX 0x84), ([0x25, 0x84], .andZp 0x84), ([0x29, 0x84], .andImm 0x84),
    ([0x2D, 0x34, 0x92], .andAbs 0x9234), ([0x31, 0x84], .andIndY 0x84), ([0x35, 0x84], .andZpX 0x84),
    ([0x39, 0x34, 0x92], .andAbsY 0x9234), ([0x3D, 0x34, 0x92], .andAbsX 0x9234), ([0x41, 0x84], .eorIndX 0x84),
    ([0x45, 0x84], .eorZp 0x84), ([0x49, 0x84], .eorImm 0x84), ([0x4D, 0x34, 0x92], .eorAbs 0x9234),
    ([0x51, 0x84], .eorIndY 0x84), ([0x55, 0x84], .eorZpX 0x84), ([0x59, 0x34, 0x92], .eorAbsY 0x9234),
    ([0x5D, 0x34, 0x92], .eorAbsX 0x9234), ([0x01, 0x84], .oraIndX 0x84), ([0x05, 0x84], .oraZp 0x84),
    ([0x09, 0x84], .oraImm 0x84), ([0x0D, 0x34, 0x92], .oraAbs 0x9234), ([0x11, 0x84], .oraIndY 0x84),
    ([0x15, 0x84], .oraZpX 0x84), ([0x19, 0x34, 0x92], .oraAbsY 0x9234),
    ([0x1D, 0x34, 0x92], .oraAbsX 0x9234)] := rfl
theorem test_decode_compare : decodesAll [
    ([0x24, 0x84], .bitZp 0x84), ([0x2C, 0x34, 0x92], .bitAbs 0x9234), ([0xC1, 0x84], .cmpIndX 0x84),
    ([0xC5, 0x84], .cmpZp 0x84), ([0xC9, 0x84], .cmpImm 0x84), ([0xCD, 0x34, 0x92], .cmpAbs 0x9234),
    ([0xD1, 0x84], .cmpIndY 0x84), ([0xD5, 0x84], .cmpZpX 0x84), ([0xD9, 0x34, 0x92], .cmpAbsY 0x9234),
    ([0xDD, 0x34, 0x92], .cmpAbsX 0x9234), ([0xE0, 0x84], .cpxImm 0x84), ([0xE4, 0x84], .cpxZp 0x84),
    ([0xEC, 0x34, 0x92], .cpxAbs 0x9234), ([0xC0, 0x84], .cpyImm 0x84), ([0xC4, 0x84], .cpyZp 0x84),
    ([0xCC, 0x34, 0x92], .cpyAbs 0x9234)] := rfl
theorem test_decode_increments : decodesAll [
    ([0xC6, 0x84], .decZp 0x84), ([0xCE, 0x34, 0x92], .decAbs 0x9234), ([0xD6, 0x84], .decZpX 0x84),
    ([0xDE, 0x34, 0x92], .decAbsX 0x9234), ([0xCA], .dex), ([0x88], .dey), ([0xE6, 0x84], .incZp 0x84),
    ([0xEE, 0x34, 0x92], .incAbs 0x9234), ([0xF6, 0x84], .incZpX 0x84), ([0xFE, 0x34, 0x92], .incAbsX 0x9234),
    ([0xE8], .inx), ([0xC8], .iny)] := rfl
theorem test_decode_shifts : decodesAll [
    ([0x06, 0x84], .aslZp 0x84), ([0x0A], .aslAcc), ([0x0E, 0x34, 0x92], .aslAbs 0x9234),
    ([0x16, 0x84], .aslZpX 0x84), ([0x1E, 0x34, 0x92], .aslAbsX 0x9234), ([0x46, 0x84], .lsrZp 0x84),
    ([0x4A], .lsrAcc), ([0x4E, 0x34, 0x92], .lsrAbs 0x9234), ([0x56, 0x84], .lsrZpX 0x84),
    ([0x5E, 0x34, 0x92], .lsrAbsX 0x9234), ([0x26, 0x84], .rolZp 0x84), ([0x2A], .rolAcc),
    ([0x2E, 0x34, 0x92], .rolAbs 0x9234), ([0x36, 0x84], .rolZpX 0x84), ([0x3E, 0x34, 0x92], .rolAbsX 0x9234),
    ([0x66, 0x84], .rorZp 0x84), ([0x6A], .rorAcc), ([0x6E, 0x34, 0x92], .rorAbs 0x9234),
    ([0x76, 0x84], .rorZpX 0x84), ([0x7E, 0x34, 0x92], .rorAbsX 0x9234)] := rfl
theorem test_decode_branches : decodesAll [
    ([0x90, 0x84], .bcc 0x84), ([0xB0, 0x84], .bcs 0x84), ([0xF0, 0x84], .beq 0x84), ([0x30, 0x84], .bmi 0x84),
    ([0xD0, 0x84], .bne 0x84), ([0x10, 0x84], .bpl 0x84), ([0x50, 0x84], .bvc 0x84),
    ([0x70, 0x84], .bvs 0x84)] := rfl
theorem test_decode_jumps : decodesAll [
    ([0x4C, 0x34, 0x92], .jmpAbs 0x9234), ([0x6C, 0x34, 0x92], .jmpInd 0x9234), ([0x20, 0x34, 0x92], .jsr 0x9234),
    ([0x60], .rts)] := rfl
theorem test_decode_stack : decodesAll [
    ([0x48], .pha), ([0x08], .php), ([0x68], .pla), ([0x28], .plp)] := rfl
theorem test_decode_flags : decodesAll [
    ([0x18], .clc), ([0xD8], .cld), ([0x58], .cli), ([0xB8], .clv), ([0x38], .sec), ([0xF8], .sed),
    ([0x78], .sei)] := rfl
theorem test_decode_system : decodesAll [
    ([0x00], .brk), ([0xEA], .nop), ([0x40], .rti)] := rfl

/-! ## Single steps: vectors V40 to V44 of 95_test_vectors.md, at most two for an instruction -/

theorem test_V40_3_ldaZp : ends (start 0x0200 [0xA5, 0x10] ⟨0x00, 0x00, 0x00, 0xFF⟩ 0b000000 [(0x0010, 0x7F)])
    ⟨0x7F, 0x00, 0x00, 0xFF⟩ 0x0202 0b000000 [] 3 := rfl
theorem test_V40_4_ldaAbs : ends (start 0x0200 [0xAD, 0x34, 0x12] ⟨0x00, 0x00, 0x00, 0xFF⟩ 0b000000 [(0x1234, 0xFF)])
    ⟨0xFF, 0x00, 0x00, 0xFF⟩ 0x0203 0b100000 [] 4 := rfl
theorem test_V40_6_ldaAbsX : ends (start 0x0200 [0xBD, 0xFF, 0x12] ⟨0x00, 0x01, 0x00, 0xFF⟩ 0b000000 [(0x1300, 0x42)])
    ⟨0x42, 0x01, 0x00, 0xFF⟩ 0x0203 0b000000 [] 5 := rfl
theorem test_V40_7_ldaAbsY : ends (start 0x0200 [0xB9, 0xFF, 0xFF] ⟨0x00, 0x00, 0x02, 0xFF⟩ 0b000000 [(0x0001, 0x66)])
    ⟨0x66, 0x00, 0x02, 0xFF⟩ 0x0203 0b000000 [] 5 := rfl
theorem test_V40_8_ldaZpX : ends (start 0x0200 [0xB5, 0xF0] ⟨0x00, 0x20, 0x00, 0xFF⟩ 0b000000 [(0x0010, 0xAB), (0x0110, 0xCD)])
    ⟨0xAB, 0x20, 0x00, 0xFF⟩ 0x0202 0b100000 [] 4 := rfl
theorem test_V40_9_ldaIndX : ends (start 0x0200 [0xA1, 0xF0] ⟨0x00, 0x0F, 0x00, 0xFF⟩ 0b000000 [(0x0000, 0x12), (0x00FF, 0x34), (0x0100, 0x77), (0x1234, 0x99)])
    ⟨0x99, 0x0F, 0x00, 0xFF⟩ 0x0202 0b100000 [] 6 := rfl
theorem test_V40_10_ldaIndY : ends (start 0x0200 [0xB1, 0x20] ⟨0x00, 0x00, 0x10, 0xFF⟩ 0b000000 [(0x0020, 0xF8), (0x0021, 0x30), (0x3108, 0x5A)])
    ⟨0x5A, 0x00, 0x10, 0xFF⟩ 0x0202 0b000000 [] 6 := rfl
theorem test_V40_11_ldaIndY : ends (start 0x0200 [0xB1, 0xFF] ⟨0x00, 0x00, 0x01, 0xFF⟩ 0b000000 [(0x0000, 0x40), (0x00FF, 0x00), (0x4001, 0x81)])
    ⟨0x81, 0x00, 0x01, 0xFF⟩ 0x0202 0b100000 [] 5 := rfl
theorem test_V40_12_ldxImm : ends (start 0x0200 [0xA2, 0xFF] ⟨0x00, 0x00, 0x00, 0xFF⟩ 0b000000 [])
    ⟨0x00, 0xFF, 0x00, 0xFF⟩ 0x0202 0b100000 [] 2 := rfl
theorem test_V40_13_ldxZpY : ends (start 0x0200 [0xB6, 0xF0] ⟨0x00, 0x00, 0x20, 0xFF⟩ 0b000000 [(0x0010, 0x01)])
    ⟨0x00, 0x01, 0x20, 0xFF⟩ 0x0202 0b000000 [] 4 := rfl
theorem test_V40_14_ldxAbsY : ends (start 0x0200 [0xBE, 0xFF, 0x10] ⟨0x00, 0x00, 0x01, 0xFF⟩ 0b100000 [(0x1100, 0x00)])
    ⟨0x00, 0x00, 0x01, 0xFF⟩ 0x0203 0b000010 [] 5 := rfl
theorem test_V40_15_ldyImm : ends (start 0x0200 [0xA0, 0x7F] ⟨0x00, 0x00, 0x00, 0xFF⟩ 0b100010 [])
    ⟨0x00, 0x00, 0x7F, 0xFF⟩ 0x0202 0b000000 [] 2 := rfl
theorem test_V40_16_ldyAbsX : ends (start 0x0200 [0xBC, 0x00, 0x10] ⟨0x00, 0x80, 0x00, 0xFF⟩ 0b000000 [(0x1080, 0x80)])
    ⟨0x00, 0x80, 0x80, 0xFF⟩ 0x0203 0b100000 [] 4 := rfl
theorem test_V40_17_staAbs : ends (start 0x0200 [0x8D, 0x00, 0x03] ⟨0x5A, 0x00, 0x00, 0xFF⟩ 0b100010 [])
    ⟨0x5A, 0x00, 0x00, 0xFF⟩ 0x0203 0b100010 [(0x0300, 0x5A)] 4 := rfl
theorem test_V40_18_staAbsX : ends (start 0x0200 [0x9D, 0xFF, 0x12] ⟨0x11, 0x01, 0x00, 0xFF⟩ 0b000000 [])
    ⟨0x11, 0x01, 0x00, 0xFF⟩ 0x0203 0b000000 [(0x1300, 0x11)] 5 := rfl
theorem test_V40_19_staAbsY : ends (start 0x0200 [0x99, 0x00, 0x12] ⟨0x12, 0x00, 0x01, 0xFF⟩ 0b000000 [])
    ⟨0x12, 0x00, 0x01, 0xFF⟩ 0x0203 0b000000 [(0x1201, 0x12)] 5 := rfl
theorem test_V40_20_staIndY : ends (start 0x0200 [0x91, 0x20] ⟨0x22, 0x00, 0xFF, 0xFF⟩ 0b000000 [(0x0020, 0x01), (0x0021, 0x40)])
    ⟨0x22, 0x00, 0xFF, 0xFF⟩ 0x0202 0b000000 [(0x4100, 0x22)] 6 := rfl
theorem test_V40_21_staIndX : ends (start 0x0200 [0x81, 0x20] ⟨0x33, 0x04, 0x00, 0xFF⟩ 0b000000 [(0x0024, 0x00), (0x0025, 0x50)])
    ⟨0x33, 0x04, 0x00, 0xFF⟩ 0x0202 0b000000 [(0x5000, 0x33)] 6 := rfl
theorem test_V40_22_staZp : ends (start 0x0200 [0x85, 0x00] ⟨0x00, 0x00, 0x00, 0xFF⟩ 0b000000 [])
    ⟨0x00, 0x00, 0x00, 0xFF⟩ 0x0202 0b000000 [(0x0000, 0x00)] 3 := rfl
theorem test_V40_23_stxZpY : ends (start 0x0200 [0x96, 0xF0] ⟨0x00, 0x44, 0x11, 0xFF⟩ 0b000000 [])
    ⟨0x00, 0x44, 0x11, 0xFF⟩ 0x0202 0b000000 [(0x0001, 0x44)] 4 := rfl
theorem test_V40_24_stxAbs : ends (start 0x0200 [0x8E, 0xFF, 0xFF] ⟨0x00, 0x01, 0x00, 0xFF⟩ 0b000000 [])
    ⟨0x00, 0x01, 0x00, 0xFF⟩ 0x0203 0b000000 [(0xFFFF, 0x01)] 4 := rfl
theorem test_V40_25_styZpX : ends (start 0x0200 [0x94, 0x10] ⟨0x00, 0xFF, 0x55, 0xFF⟩ 0b000000 [])
    ⟨0x00, 0xFF, 0x55, 0xFF⟩ 0x0202 0b000000 [(0x000F, 0x55)] 4 := rfl
theorem test_V40_26_styAbs : ends (start 0x0200 [0x8C, 0x00, 0x02] ⟨0x00, 0x00, 0xEA, 0xFF⟩ 0b000000 [])
    ⟨0x00, 0x00, 0xEA, 0xFF⟩ 0x0203 0b000000 [(0x0200, 0xEA)] 4 := rfl
theorem test_V40_27_tax : ends (start 0x0200 [0xAA] ⟨0x00, 0x09, 0x00, 0xFF⟩ 0b100000 [])
    ⟨0x00, 0x00, 0x00, 0xFF⟩ 0x0201 0b000010 [] 2 := rfl
theorem test_V40_28_tay : ends (start 0x0200 [0xA8] ⟨0x80, 0x00, 0x00, 0xFF⟩ 0b000000 [])
    ⟨0x80, 0x00, 0x80, 0xFF⟩ 0x0201 0b100000 [] 2 := rfl
theorem test_V40_29_txa : ends (start 0x0200 [0x8A] ⟨0x00, 0x7F, 0x00, 0xFF⟩ 0b000010 [])
    ⟨0x7F, 0x7F, 0x00, 0xFF⟩ 0x0201 0b000000 [] 2 := rfl
theorem test_V40_30_tya : ends (start 0x0200 [0x98] ⟨0x00, 0x00, 0xFF, 0xFF⟩ 0b000000 [])
    ⟨0xFF, 0x00, 0xFF, 0xFF⟩ 0x0201 0b100000 [] 2 := rfl
theorem test_V40_31_tsx : ends (start 0x0200 [0xBA] ⟨0x00, 0x00, 0x00, 0xFD⟩ 0b000000 [])
    ⟨0x00, 0xFD, 0x00, 0xFD⟩ 0x0201 0b100000 [] 2 := rfl
theorem test_V40_33_txs : ends (start 0x0200 [0x9A] ⟨0x00, 0x00, 0x00, 0xFF⟩ 0b100000 [])
    ⟨0x00, 0x00, 0x00, 0x00⟩ 0x0201 0b100000 [] 2 := rfl
theorem test_V40_34_ldaImm : ends (start 0xFFFF [0xA9, 0x01] ⟨0x00, 0x00, 0x00, 0xFF⟩ 0b000000 [])
    ⟨0x01, 0x00, 0x00, 0xFF⟩ 0x0001 0b000000 [] 2 := rfl
theorem test_V41_4_adcImm : ends (start 0x0200 [0x69, 0x00] ⟨0x7F, 0x00, 0x00, 0xFF⟩ 0b000001 [])
    ⟨0x80, 0x00, 0x00, 0xFF⟩ 0x0202 0b110000 [] 2 := rfl
theorem test_V41_8_adcZp : ends (start 0x0200 [0x65, 0x10] ⟨0x10, 0x00, 0x00, 0xFF⟩ 0b010000 [(0x0010, 0x20)])
    ⟨0x30, 0x00, 0x00, 0xFF⟩ 0x0202 0b000000 [] 3 := rfl
theorem test_V41_9_adcAbsX : ends (start 0x0200 [0x7D, 0xFF, 0x20] ⟨0x01, 0x01, 0x00, 0xFF⟩ 0b000000 [(0x2100, 0x02)])
    ⟨0x03, 0x01, 0x00, 0xFF⟩ 0x0203 0b000000 [] 5 := rfl
theorem test_V41_10_adcIndY : ends (start 0x0200 [0x71, 0x40] ⟨0x01, 0x00, 0x01, 0xFF⟩ 0b000000 [(0x0040, 0xFF), (0x0041, 0x20), (0x2100, 0x7F)])
    ⟨0x80, 0x00, 0x01, 0xFF⟩ 0x0202 0b110000 [] 6 := rfl
theorem test_V41_16_sbcImm : ends (start 0x0200 [0xE9, 0xB0] ⟨0x50, 0x00, 0x00, 0xFF⟩ 0b000001 [])
    ⟨0xA0, 0x00, 0x00, 0xFF⟩ 0x0202 0b110000 [] 2 := rfl
theorem test_V41_19_sbcZp : ends (start 0x0200 [0xE5, 0x10] ⟨0x7F, 0x00, 0x00, 0xFF⟩ 0b000001 [(0x0010, 0xFF)])
    ⟨0x80, 0x00, 0x00, 0xFF⟩ 0x0202 0b110000 [] 3 := rfl
theorem test_V41_20_adcImm : ends (startNmos 0x0200 [0x69, 0x46] ⟨0x58, 0x00, 0x00, 0xFF⟩ 0b001001 [])
    ⟨0x05, 0x00, 0x00, 0xFF⟩ 0x0202 0b111001 [] 2 := rfl
theorem test_V41_27_sbcImm : ends (startNmos 0x0200 [0xE9, 0x34] ⟨0x12, 0x00, 0x00, 0xFF⟩ 0b001001 [])
    ⟨0x78, 0x00, 0x00, 0xFF⟩ 0x0202 0b101000 [] 2 := rfl
theorem test_V41_31_andImm : ends (start 0x0200 [0x29, 0x0F] ⟨0xF0, 0x00, 0x00, 0xFF⟩ 0b010001 [])
    ⟨0x00, 0x00, 0x00, 0xFF⟩ 0x0202 0b010011 [] 2 := rfl
theorem test_V41_32_andImm : ends (start 0x0200 [0x29, 0xF0] ⟨0x9F, 0x00, 0x00, 0xFF⟩ 0b000000 [])
    ⟨0x90, 0x00, 0x00, 0xFF⟩ 0x0202 0b100000 [] 2 := rfl
theorem test_V41_33_andAbsX : ends (start 0x0200 [0x3D, 0x00, 0x30] ⟨0xFF, 0x10, 0x00, 0xFF⟩ 0b000000 [(0x3010, 0x7E)])
    ⟨0x7E, 0x10, 0x00, 0xFF⟩ 0x0203 0b000000 [] 4 := rfl
theorem test_V41_34_oraImm : ends (start 0x0200 [0x09, 0x00] ⟨0x00, 0x00, 0x00, 0xFF⟩ 0b000000 [])
    ⟨0x00, 0x00, 0x00, 0xFF⟩ 0x0202 0b000010 [] 2 := rfl
theorem test_V41_36_oraIndX : ends (start 0x0200 [0x01, 0x10] ⟨0x0F, 0x02, 0x00, 0xFF⟩ 0b000000 [(0x0012, 0x00), (0x0013, 0x30), (0x3000, 0x30)])
    ⟨0x3F, 0x02, 0x00, 0xFF⟩ 0x0202 0b000000 [] 6 := rfl
theorem test_V41_37_eorImm : ends (start 0x0200 [0x49, 0xFF] ⟨0xFF, 0x00, 0x00, 0xFF⟩ 0b000000 [])
    ⟨0x00, 0x00, 0x00, 0xFF⟩ 0x0202 0b000010 [] 2 := rfl
theorem test_V41_39_eorAbsY : ends (start 0x0200 [0x59, 0x80, 0x30] ⟨0x81, 0x00, 0x80, 0xFF⟩ 0b000000 [(0x3100, 0x01)])
    ⟨0x80, 0x00, 0x80, 0xFF⟩ 0x0203 0b100000 [] 5 := rfl
theorem test_V41_41_cmpImm : ends (start 0x0200 [0xC9, 0x41] ⟨0x40, 0x00, 0x00, 0xFF⟩ 0b000000 [])
    ⟨0x40, 0x00, 0x00, 0xFF⟩ 0x0202 0b100000 [] 2 := rfl
theorem test_V41_43_cmpImm : ends (start 0x0200 [0xC9, 0xFF] ⟨0x00, 0x00, 0x00, 0xFF⟩ 0b000000 [])
    ⟨0x00, 0x00, 0x00, 0xFF⟩ 0x0202 0b000000 [] 2 := rfl
theorem test_V41_45_cmpZp : ends (start 0x0200 [0xC5, 0x10] ⟨0x7F, 0x00, 0x00, 0xFF⟩ 0b000001 [(0x0010, 0x80)])
    ⟨0x7F, 0x00, 0x00, 0xFF⟩ 0x0202 0b100000 [] 3 := rfl
theorem test_V41_46_cpxImm : ends (start 0x0200 [0xE0, 0x10] ⟨0x00, 0x10, 0x00, 0xFF⟩ 0b000000 [])
    ⟨0x00, 0x10, 0x00, 0xFF⟩ 0x0202 0b000011 [] 2 := rfl
theorem test_V41_47_cpxZp : ends (start 0x0200 [0xE4, 0x10] ⟨0x00, 0x10, 0x00, 0xFF⟩ 0b000000 [(0x0010, 0x20)])
    ⟨0x00, 0x10, 0x00, 0xFF⟩ 0x0202 0b100000 [] 3 := rfl
theorem test_V41_48_cpxAbs : ends (start 0x0200 [0xEC, 0x00, 0x30] ⟨0x00, 0xFF, 0x00, 0xFF⟩ 0b000000 [(0x3000, 0x01)])
    ⟨0x00, 0xFF, 0x00, 0xFF⟩ 0x0203 0b100001 [] 4 := rfl
theorem test_V41_49_cpyImm : ends (start 0x0200 [0xC0, 0xFF] ⟨0x00, 0x00, 0xFF, 0xFF⟩ 0b000000 [])
    ⟨0x00, 0x00, 0xFF, 0xFF⟩ 0x0202 0b000011 [] 2 := rfl
theorem test_V41_50_cpyZp : ends (start 0x0200 [0xC4, 0x20] ⟨0x00, 0x00, 0x00, 0xFF⟩ 0b000000 [(0x0020, 0x01)])
    ⟨0x00, 0x00, 0x00, 0xFF⟩ 0x0202 0b100000 [] 3 := rfl
theorem test_V41_51_bitZp : ends (start 0x0200 [0x24, 0x10] ⟨0x01, 0x00, 0x00, 0xFF⟩ 0b000000 [(0x0010, 0xC0)])
    ⟨0x01, 0x00, 0x00, 0xFF⟩ 0x0202 0b110010 [] 3 := rfl
theorem test_V41_52_bitZp : ends (start 0x0200 [0x24, 0x10] ⟨0xFF, 0x00, 0x00, 0xFF⟩ 0b110000 [(0x0010, 0x3F)])
    ⟨0xFF, 0x00, 0x00, 0xFF⟩ 0x0202 0b000000 [] 3 := rfl
theorem test_V41_53_bitAbs : ends (start 0x0200 [0x2C, 0x00, 0x30] ⟨0x40, 0x00, 0x00, 0xFF⟩ 0b000000 [(0x3000, 0x40)])
    ⟨0x40, 0x00, 0x00, 0xFF⟩ 0x0203 0b010000 [] 4 := rfl
theorem test_V41_55_incZp : ends (start 0x0200 [0xE6, 0x10] ⟨0x00, 0x00, 0x00, 0xFF⟩ 0b000001 [(0x0010, 0xFF)])
    ⟨0x00, 0x00, 0x00, 0xFF⟩ 0x0202 0b000011 [(0x0010, 0x00)] 5 := rfl
theorem test_V41_56_incZp : ends (start 0x0200 [0xE6, 0x10] ⟨0x00, 0x00, 0x00, 0xFF⟩ 0b000000 [(0x0010, 0x7F)])
    ⟨0x00, 0x00, 0x00, 0xFF⟩ 0x0202 0b100000 [(0x0010, 0x80)] 5 := rfl
theorem test_V41_57_incAbsX : ends (start 0x0200 [0xFE, 0xFF, 0x30] ⟨0x00, 0x01, 0x00, 0xFF⟩ 0b000000 [(0x3100, 0x01)])
    ⟨0x00, 0x01, 0x00, 0xFF⟩ 0x0203 0b000000 [(0x3100, 0x02)] 7 := rfl
theorem test_V41_58_incZpX : ends (start 0x0200 [0xF6, 0xFF] ⟨0x00, 0x02, 0x00, 0xFF⟩ 0b000000 [(0x0001, 0x0F)])
    ⟨0x00, 0x02, 0x00, 0xFF⟩ 0x0202 0b000000 [(0x0001, 0x10)] 6 := rfl
theorem test_V41_59_decZp : ends (start 0x0200 [0xC6, 0x10] ⟨0x00, 0x00, 0x00, 0xFF⟩ 0b000000 [(0x0010, 0x00)])
    ⟨0x00, 0x00, 0x00, 0xFF⟩ 0x0202 0b100000 [(0x0010, 0xFF)] 5 := rfl
theorem test_V41_60_decAbs : ends (start 0x0200 [0xCE, 0x00, 0x30] ⟨0x00, 0x00, 0x00, 0xFF⟩ 0b000000 [(0x3000, 0x01)])
    ⟨0x00, 0x00, 0x00, 0xFF⟩ 0x0203 0b000010 [(0x3000, 0x00)] 6 := rfl
theorem test_V41_61_inx : ends (start 0x0200 [0xE8] ⟨0x00, 0xFF, 0x00, 0xFF⟩ 0b000000 [])
    ⟨0x00, 0x00, 0x00, 0xFF⟩ 0x0201 0b000010 [] 2 := rfl
theorem test_V41_63_iny : ends (start 0x0200 [0xC8] ⟨0x00, 0x00, 0xFE, 0xFF⟩ 0b000000 [])
    ⟨0x00, 0x00, 0xFF, 0xFF⟩ 0x0201 0b100000 [] 2 := rfl
theorem test_V41_64_dex : ends (start 0x0200 [0xCA] ⟨0x00, 0x00, 0x00, 0xFF⟩ 0b000000 [])
    ⟨0x00, 0xFF, 0x00, 0xFF⟩ 0x0201 0b100000 [] 2 := rfl
theorem test_V41_66_dey : ends (start 0x0200 [0x88] ⟨0x00, 0x00, 0x80, 0xFF⟩ 0b010001 [])
    ⟨0x00, 0x00, 0x7F, 0xFF⟩ 0x0201 0b010001 [] 2 := rfl
theorem test_V42_1_aslAcc : ends (start 0x0200 [0x0A] ⟨0x80, 0x00, 0x00, 0xFF⟩ 0b000000 [])
    ⟨0x00, 0x00, 0x00, 0xFF⟩ 0x0201 0b000011 [] 2 := rfl
theorem test_V42_2_aslAcc : ends (start 0x0200 [0x0A] ⟨0x41, 0x00, 0x00, 0xFF⟩ 0b000001 [])
    ⟨0x82, 0x00, 0x00, 0xFF⟩ 0x0201 0b100000 [] 2 := rfl
theorem test_V42_3_aslZp : ends (start 0x0200 [0x06, 0x10] ⟨0x00, 0x00, 0x00, 0xFF⟩ 0b000000 [(0x0010, 0xFF)])
    ⟨0x00, 0x00, 0x00, 0xFF⟩ 0x0202 0b100001 [(0x0010, 0xFE)] 5 := rfl
theorem test_V42_4_aslAbsX : ends (start 0x0200 [0x1E, 0xFF, 0x30] ⟨0x00, 0x01, 0x00, 0xFF⟩ 0b000000 [(0x3100, 0x01)])
    ⟨0x00, 0x01, 0x00, 0xFF⟩ 0x0203 0b000000 [(0x3100, 0x02)] 7 := rfl
theorem test_V42_5_lsrAcc : ends (start 0x0200 [0x4A] ⟨0x01, 0x00, 0x00, 0xFF⟩ 0b100000 [])
    ⟨0x00, 0x00, 0x00, 0xFF⟩ 0x0201 0b000011 [] 2 := rfl
theorem test_V42_7_lsrZp : ends (start 0x0200 [0x46, 0x10] ⟨0x00, 0x00, 0x00, 0xFF⟩ 0b000001 [(0x0010, 0x80)])
    ⟨0x00, 0x00, 0x00, 0xFF⟩ 0x0202 0b000000 [(0x0010, 0x40)] 5 := rfl
theorem test_V42_8_lsrZpX : ends (start 0x0200 [0x56, 0x10] ⟨0x00, 0xF0, 0x00, 0xFF⟩ 0b000000 [(0x0000, 0x02)])
    ⟨0x00, 0xF0, 0x00, 0xFF⟩ 0x0202 0b000000 [(0x0000, 0x01)] 6 := rfl
theorem test_V42_9_rolAcc : ends (start 0x0200 [0x2A] ⟨0x80, 0x00, 0x00, 0xFF⟩ 0b000001 [])
    ⟨0x01, 0x00, 0x00, 0xFF⟩ 0x0201 0b000001 [] 2 := rfl
theorem test_V42_11_rolAcc : ends (start 0x0200 [0x2A] ⟨0x40, 0x00, 0x00, 0xFF⟩ 0b000000 [])
    ⟨0x80, 0x00, 0x00, 0xFF⟩ 0x0201 0b100000 [] 2 := rfl
theorem test_V42_12_rolZp : ends (start 0x0200 [0x26, 0x10] ⟨0x00, 0x00, 0x00, 0xFF⟩ 0b000001 [(0x0010, 0x00)])
    ⟨0x00, 0x00, 0x00, 0xFF⟩ 0x0202 0b000000 [(0x0010, 0x01)] 5 := rfl
theorem test_V42_13_rolAbs : ends (start 0x0200 [0x2E, 0x00, 0x30] ⟨0x00, 0x00, 0x00, 0xFF⟩ 0b000000 [(0x3000, 0xFF)])
    ⟨0x00, 0x00, 0x00, 0xFF⟩ 0x0203 0b100001 [(0x3000, 0xFE)] 6 := rfl
theorem test_V42_14_rorAcc : ends (start 0x0200 [0x6A] ⟨0x01, 0x00, 0x00, 0xFF⟩ 0b000001 [])
    ⟨0x80, 0x00, 0x00, 0xFF⟩ 0x0201 0b100001 [] 2 := rfl
theorem test_V42_15_rorAcc : ends (start 0x0200 [0x6A] ⟨0x01, 0x00, 0x00, 0xFF⟩ 0b000000 [])
    ⟨0x00, 0x00, 0x00, 0xFF⟩ 0x0201 0b000011 [] 2 := rfl
theorem test_V42_17_rorZp : ends (start 0x0200 [0x66, 0x10] ⟨0x00, 0x00, 0x00, 0xFF⟩ 0b000000 [(0x0010, 0xFE)])
    ⟨0x00, 0x00, 0x00, 0xFF⟩ 0x0202 0b000000 [(0x0010, 0x7F)] 5 := rfl
theorem test_V42_18_rorAbsX : ends (start 0x0200 [0x7E, 0x00, 0x30] ⟨0x00, 0x05, 0x00, 0xFF⟩ 0b000001 [(0x3005, 0x10)])
    ⟨0x00, 0x05, 0x00, 0xFF⟩ 0x0203 0b100000 [(0x3005, 0x88)] 7 := rfl
theorem test_V42_19_rorZpX : ends (start 0x0200 [0x76, 0xFF] ⟨0x00, 0x01, 0x00, 0xFF⟩ 0b000000 [(0x0000, 0x03)])
    ⟨0x00, 0x01, 0x00, 0xFF⟩ 0x0202 0b000001 [(0x0000, 0x01)] 6 := rfl
theorem test_V43_1_bcc : ends (start 0x0200 [0x90, 0x10] ⟨0x00, 0x00, 0x00, 0xFF⟩ 0b000000 [])
    ⟨0x00, 0x00, 0x00, 0xFF⟩ 0x0212 0b000000 [] 3 := rfl
theorem test_V43_3_bcs : ends (start 0x0200 [0xB0, 0xFE] ⟨0x00, 0x00, 0x00, 0xFF⟩ 0b000001 [])
    ⟨0x00, 0x00, 0x00, 0xFF⟩ 0x0200 0b000001 [] 3 := rfl
theorem test_V43_5_beq : ends (start 0x0200 [0xF0, 0x7F] ⟨0x00, 0x00, 0x00, 0xFF⟩ 0b000010 [])
    ⟨0x00, 0x00, 0x00, 0xFF⟩ 0x0281 0b000010 [] 3 := rfl
theorem test_V43_6_beq : ends (start 0x0200 [0xF0, 0x80] ⟨0x00, 0x00, 0x00, 0xFF⟩ 0b000010 [])
    ⟨0x00, 0x00, 0x00, 0xFF⟩ 0x0182 0b000010 [] 4 := rfl
theorem test_V43_8_bne : ends (start 0x02FE [0xD0, 0xFC] ⟨0x00, 0x00, 0x00, 0xFF⟩ 0b000000 [])
    ⟨0x00, 0x00, 0x00, 0xFF⟩ 0x02FC 0b000000 [] 4 := rfl
theorem test_V43_9_bne : ends (start 0x0200 [0xD0, 0x05] ⟨0x00, 0x00, 0x00, 0xFF⟩ 0b000010 [])
    ⟨0x00, 0x00, 0x00, 0xFF⟩ 0x0202 0b000010 [] 2 := rfl
theorem test_V43_10_bmi : ends (start 0x02FC [0x30, 0x02] ⟨0x00, 0x00, 0x00, 0xFF⟩ 0b100000 [])
    ⟨0x00, 0x00, 0x00, 0xFF⟩ 0x0300 0b100000 [] 4 := rfl
theorem test_V43_12_bpl : ends (start 0x0200 [0x10, 0x00] ⟨0x00, 0x00, 0x00, 0xFF⟩ 0b000000 [])
    ⟨0x00, 0x00, 0x00, 0xFF⟩ 0x0202 0b000000 [] 3 := rfl
theorem test_V43_14_bvc : ends (start 0x0200 [0x50, 0x20] ⟨0x00, 0x00, 0x00, 0xFF⟩ 0b000000 [])
    ⟨0x00, 0x00, 0x00, 0xFF⟩ 0x0222 0b000000 [] 3 := rfl
theorem test_V43_16_bvs : ends (start 0x0200 [0x70, 0xE0] ⟨0x00, 0x00, 0x00, 0xFF⟩ 0b010000 [])
    ⟨0x00, 0x00, 0x00, 0xFF⟩ 0x01E2 0b010000 [] 4 := rfl
theorem test_V43_18_bcc : ends (start 0xFFF8 [0x90, 0x10] ⟨0x00, 0x00, 0x00, 0xFF⟩ 0b000000 [])
    ⟨0x00, 0x00, 0x00, 0xFF⟩ 0x000A 0b000000 [] 4 := rfl
theorem test_V43_19_jmpAbs : ends (start 0x0200 [0x4C, 0x34, 0x12] ⟨0x00, 0x00, 0x00, 0xFF⟩ 0b100001 [])
    ⟨0x00, 0x00, 0x00, 0xFF⟩ 0x1234 0b100001 [] 3 := rfl
theorem test_V43_20_jmpAbs : ends (start 0x0200 [0x4C, 0x00, 0x02] ⟨0x00, 0x00, 0x00, 0xFF⟩ 0b000000 [])
    ⟨0x00, 0x00, 0x00, 0xFF⟩ 0x0200 0b000000 [] 3 := rfl
theorem test_V43_21_jmpInd : ends (start 0x0200 [0x6C, 0x20, 0x30] ⟨0x00, 0x00, 0x00, 0xFF⟩ 0b000000 [(0x3020, 0x78), (0x3021, 0x56)])
    ⟨0x00, 0x00, 0x00, 0xFF⟩ 0x5678 0b000000 [] 5 := rfl
theorem test_V43_22_jmpInd : ends (start 0x0200 [0x6C, 0xFF, 0x30] ⟨0x00, 0x00, 0x00, 0xFF⟩ 0b000000 [(0x3000, 0x9A), (0x30FF, 0x78), (0x3100, 0x56)])
    ⟨0x00, 0x00, 0x00, 0xFF⟩ 0x5678 0b000000 [] 5 := rfl
theorem test_V43_23_jsr : ends (start 0x0200 [0x20, 0x00, 0x30] ⟨0x00, 0x00, 0x00, 0xFF⟩ 0b000000 [])
    ⟨0x00, 0x00, 0x00, 0xFD⟩ 0x3000 0b000000 [(0x01FF, 0x02), (0x01FE, 0x02)] 6 := rfl
theorem test_V43_24_jsr : ends (start 0x12FE [0x20, 0x00, 0x30] ⟨0x00, 0x00, 0x00, 0x00⟩ 0b000000 [])
    ⟨0x00, 0x00, 0x00, 0xFE⟩ 0x3000 0b000000 [(0x0100, 0x13), (0x01FF, 0x00)] 6 := rfl
theorem test_V43_26_rts : ends (start 0x3000 [0x60] ⟨0x00, 0x00, 0x00, 0xFD⟩ 0b000000 [(0x01FE, 0xFF), (0x01FF, 0x12)])
    ⟨0x00, 0x00, 0x00, 0xFF⟩ 0x1300 0b000000 [] 6 := rfl
theorem test_V43_27_rts : ends (start 0x3000 [0x60] ⟨0x00, 0x00, 0x00, 0xFF⟩ 0b000000 [(0x0100, 0xFF), (0x0101, 0xFF)])
    ⟨0x00, 0x00, 0x00, 0x01⟩ 0x0000 0b000000 [] 6 := rfl
theorem test_V44_1_pha : ends (start 0x0200 [0x48] ⟨0x80, 0x00, 0x00, 0xFF⟩ 0b000000 [])
    ⟨0x80, 0x00, 0x00, 0xFE⟩ 0x0201 0b000000 [(0x01FF, 0x80)] 3 := rfl
theorem test_V44_2_pha : ends (start 0x0200 [0x48] ⟨0x01, 0x00, 0x00, 0x00⟩ 0b000000 [])
    ⟨0x01, 0x00, 0x00, 0xFF⟩ 0x0201 0b000000 [(0x0100, 0x01)] 3 := rfl
theorem test_V44_3_php : ends (start 0x0200 [0x08] ⟨0x00, 0x00, 0x00, 0xFF⟩ 0b000000 [])
    ⟨0x00, 0x00, 0x00, 0xFE⟩ 0x0201 0b000000 [(0x01FF, 0x30)] 3 := rfl
theorem test_V44_5_php : ends (start 0x0200 [0x08] ⟨0x00, 0x00, 0x00, 0x80⟩ 0b100101 [])
    ⟨0x00, 0x00, 0x00, 0x7F⟩ 0x0201 0b100101 [(0x0180, 0xB5)] 3 := rfl
theorem test_V44_7_pla : ends (start 0x0200 [0x68] ⟨0x00, 0x00, 0x00, 0xFE⟩ 0b000010 [(0x01FF, 0x80)])
    ⟨0x80, 0x00, 0x00, 0xFF⟩ 0x0201 0b100000 [] 4 := rfl
theorem test_V44_8_pla : ends (start 0x0200 [0x68] ⟨0x00, 0x00, 0x00, 0xFF⟩ 0b000000 [(0x0100, 0x7F)])
    ⟨0x7F, 0x00, 0x00, 0x00⟩ 0x0201 0b000000 [] 4 := rfl
theorem test_V44_10_plp : ends (start 0x0200 [0x28] ⟨0x00, 0x00, 0x00, 0xFE⟩ 0b111111 [(0x01FF, 0x00)])
    ⟨0x00, 0x00, 0x00, 0xFF⟩ 0x0201 0b000000 [] 4 := rfl
theorem test_V44_12_plp : ends (start 0x0200 [0x28] ⟨0x00, 0x00, 0x00, 0xFE⟩ 0b000000 [(0x01FF, 0xC3)])
    ⟨0x00, 0x00, 0x00, 0xFF⟩ 0x0201 0b110011 [] 4 := rfl
theorem test_V44_13_clc : ends (start 0x0200 [0x18] ⟨0x00, 0x00, 0x00, 0xFF⟩ 0b100001 [])
    ⟨0x00, 0x00, 0x00, 0xFF⟩ 0x0201 0b100000 [] 2 := rfl
theorem test_V44_14_cld : ends (start 0x0200 [0xD8] ⟨0x00, 0x00, 0x00, 0xFF⟩ 0b001000 [])
    ⟨0x00, 0x00, 0x00, 0xFF⟩ 0x0201 0b000000 [] 2 := rfl
theorem test_V44_15_cli : ends (start 0x0200 [0x58] ⟨0x00, 0x00, 0x00, 0xFF⟩ 0b000100 [])
    ⟨0x00, 0x00, 0x00, 0xFF⟩ 0x0201 0b000000 [] 2 := rfl
theorem test_V44_16_clv : ends (start 0x0200 [0xB8] ⟨0x00, 0x00, 0x00, 0xFF⟩ 0b010000 [])
    ⟨0x00, 0x00, 0x00, 0xFF⟩ 0x0201 0b000000 [] 2 := rfl
theorem test_V44_17_sec : ends (start 0x0200 [0x38] ⟨0x00, 0x00, 0x00, 0xFF⟩ 0b000000 [])
    ⟨0x00, 0x00, 0x00, 0xFF⟩ 0x0201 0b000001 [] 2 := rfl
theorem test_V44_18_sed : ends (start 0x0200 [0xF8] ⟨0x00, 0x00, 0x00, 0xFF⟩ 0b000000 [])
    ⟨0x00, 0x00, 0x00, 0xFF⟩ 0x0201 0b001000 [] 2 := rfl
theorem test_V44_19_sei : ends (start 0x0200 [0x78] ⟨0x00, 0x00, 0x00, 0xFF⟩ 0b000000 [])
    ⟨0x00, 0x00, 0x00, 0xFF⟩ 0x0201 0b000100 [] 2 := rfl
theorem test_V44_20_nop : ends (start 0x0200 [0xEA] ⟨0x12, 0x00, 0x00, 0xFF⟩ 0b100011 [])
    ⟨0x12, 0x00, 0x00, 0xFF⟩ 0x0201 0b100011 [] 2 := rfl
theorem test_V44_22_brk : ends (start 0x02FF [0x00] ⟨0x00, 0x00, 0x00, 0xFF⟩ 0b101100 [(0xFFFE, 0x34), (0xFFFF, 0x12)])
    ⟨0x00, 0x00, 0x00, 0xFC⟩ 0x1234 0b101100 [(0x01FF, 0x03), (0x01FE, 0x01), (0x01FD, 0xBC)] 7 := rfl
theorem test_V44_23_brk : ends (start 0x0200 [0x00] ⟨0x00, 0x00, 0x00, 0x01⟩ 0b000000 [(0xFFFE, 0x00), (0xFFFF, 0x90)])
    ⟨0x00, 0x00, 0x00, 0xFE⟩ 0x9000 0b000100 [(0x0101, 0x02), (0x0100, 0x02), (0x01FF, 0x30)] 7 := rfl
theorem test_V44_24_rti : ends (start 0x9000 [0x40] ⟨0x00, 0x00, 0x00, 0xFC⟩ 0b000100 [(0x01FD, 0x31), (0x01FE, 0x02), (0x01FF, 0x02)])
    ⟨0x00, 0x00, 0x00, 0xFF⟩ 0x0202 0b000001 [] 6 := rfl
theorem test_V44_25_rti : ends (start 0x9000 [0x40] ⟨0x00, 0x00, 0x00, 0xFC⟩ 0b000000 [(0x01FD, 0xCF), (0x01FE, 0x00), (0x01FF, 0x80)])
    ⟨0x00, 0x00, 0x00, 0xFF⟩ 0x8000 0b111111 [] 6 := rfl

/-! ## Boundaries and reset: vectors V60 and V70 of 95_test_vectors.md -/

/-- The state of the V60 rows: the vectors, and a NOP at 0x0234. -/
def boundary (sp : Byte) (flags : Nat) (pending : Bool) (inp : BoundaryInputs) : State :=
  { start 0x0234 [0xEA] ⟨0x00, 0x00, 0x00, sp⟩ flags [(0xFFFB, 0x80), (0xFFFF, 0x90)] with
    nmiPending := pending, inputs := [inp] }

theorem test_V60_1_irq : ends (boundary 0xFF 0b010011 false { irqLow := true })
    ⟨0x00, 0x00, 0x00, 0xFC⟩ 0x9000 0b010111 [(0x01FF, 0x02), (0x01FE, 0x34), (0x01FD, 0x63)] 7 := rfl
theorem test_V60_2_irq_masked : ends (boundary 0xFF 0b010111 false { irqLow := true })
    ⟨0x00, 0x00, 0x00, 0xFF⟩ 0x0235 0b010111 [] 2 := rfl
theorem test_V60_4_nmi_before_irq : ends (boundary 0xFF 0b000000 false { nmiEdge := true, irqLow := true })
    ⟨0x00, 0x00, 0x00, 0xFC⟩ 0x8000 0b000100 [(0x01FF, 0x02), (0x01FE, 0x34), (0x01FD, 0x20)] 7 := rfl
theorem test_V60_5_pending_nmi : ends (boundary 0xFF 0b000100 true {})
    ⟨0x00, 0x00, 0x00, 0xFC⟩ 0x8000 0b000100 [(0x01FF, 0x02), (0x01FE, 0x34), (0x01FD, 0x24)] 7 := rfl
theorem test_V60_7_stack_wraps : ends (boundary 0x01 0b100001 false { irqLow := true })
    ⟨0x00, 0x00, 0x00, 0xFE⟩ 0x9000 0b100101 [(0x0101, 0x02), (0x0100, 0x34), (0x01FF, 0xA1)] 7 := rfl
theorem test_V60_8_so : ends (boundary 0xFF 0b000000 false { soEdge := true })
    ⟨0x00, 0x00, 0x00, 0xFF⟩ 0x0235 0b010000 [] 2 := rfl
theorem test_V60_9_so_before_irq : ends (boundary 0xFF 0b000000 false { soEdge := true, irqLow := true })
    ⟨0x00, 0x00, 0x00, 0xFC⟩ 0x9000 0b010100 [(0x01FF, 0x02), (0x01FE, 0x34), (0x01FD, 0x60)] 7 := rfl
theorem test_V70_1_reset : ends
    { start 0x0234 [0xEA] ⟨0x00, 0x00, 0x00, 0x00⟩ 0b000000 [(0xFFFD, 0x02)] with
      inputs := [{ res := some ⟨0xAA, 0xBB, 0xCC, 0x42, true, true, true, true, true⟩ }] }
    ⟨0xAA, 0xBB, 0xCC, 0x42⟩ 0x0200 0b111111 [] 8 := rfl
theorem test_V70_3_reset_clears_nmi : ends
    { boundary 0xFF 0b000000 true
        { res := some ⟨0x01, 0x02, 0x03, 0xFD, false, false, true, false, false⟩, nmiEdge := true } with
      mem := memoryOf [(0xFFFD, 0xF0)] }
    ⟨0x01, 0x02, 0x03, 0xFD⟩ 0xF000 0b001100 [] 8 := rfl

/-- RES falls after so many accesses of a step, and the reset that follows leaves these registers. -/
def cutAfter (n : Nat) : BoundaryInputs :=
  { cuts := [{ after := n, cycles := 5, draw := ⟨0xAA, 0xBB, 0xCC, 0x42, true, true, true, true, true⟩ }] }

/-- JSR with its reset vector. -/
def calling (inp : BoundaryInputs) : State :=
  { start 0x0234 [0x20, 0x00, 0x30] ⟨0x00, 0x00, 0x00, 0xFF⟩ 0b000000 [(0xFFFD, 0x02)] with inputs := [inp] }

/-- Three reads of the instruction and one push are made; the second push is not (R217, R243). -/
theorem test_reset_between_the_pushes_of_jsr : ends (calling (cutAfter 4))
    ⟨0xAA, 0xBB, 0xCC, 0x42⟩ 0x0200 0b111111 [(0x01FF, 0x02)] 13 := rfl
theorem test_reset_before_the_opcode : ends (calling (cutAfter 0))
    ⟨0xAA, 0xBB, 0xCC, 0x42⟩ 0x0200 0b111111 [] 13 := rfl
theorem test_reset_after_the_last_access : ends (calling (cutAfter 9))
    ⟨0xAA, 0xBB, 0xCC, 0x42⟩ 0x0200 0b111111 [(0x01FF, 0x02), (0x01FE, 0x36)] 13 := rfl
/-- RES falls while RDY holds the operand's read: what another bus master did stays, and the operand is never written. -/
theorem test_reset_in_a_held_read : ends
    { start 0x0200 [0xE6, 0x40] ⟨0x00, 0x00, 0x00, 0xFF⟩ 0b000000 [(0x0040, 0x07), (0xFFFD, 0x02)] with
      halts := [⟨0, []⟩, ⟨0, []⟩, ⟨2, [.write 0x0041 0x71]⟩], inputs := [cutAfter 2] }
    ⟨0xAA, 0xBB, 0xCC, 0x42⟩ 0x0200 0b111111 [(0x0041, 0x71)] 13 := rfl
/-- RES falls inside the frame of an IRQ. -/
theorem test_reset_inside_an_interrupt_sequence : ends
    (boundary 0xFF 0b010011 false { cutAfter 2 with irqLow := true })
    ⟨0xAA, 0xBB, 0xCC, 0x42⟩ 0x0000 0b111111 [(0x01FF, 0x02), (0x01FE, 0x34)] 13 := rfl
/-- RES falls again between the two reads of the reset vector: the draw of the last fall is left. -/
theorem test_reset_inside_the_reset_sequence : ends
    (calling { cuts := (cutAfter 4).cuts ++ [{ after := 1, cycles := 20, draw := ⟨1, 2, 3, 4, false, false, true, false, false⟩ }] })
    ⟨0x01, 0x02, 0x03, 0x04⟩ 0x0200 0b001100 [(0x01FF, 0x02)] 33 := rfl

/-! ## Where the next step fetches -/

theorem test_tableWord_three_bytes : decodeTableWord 24 0x92344C = some (.jmpAbs 0x9234) := rfl
theorem test_tableWord_opcode_only : decodeTableWord 8 0xBD = some (.ldaAbsX 0x0000) := rfl
theorem test_tableWord_undefined : decodeTableWord 8 0x02 = none := rfl
theorem test_withFetchWord_runs : ends (State.reset.withFetchWord 16 0x80A9)
    ⟨0x80, 0x00, 0x00, 0x00⟩ 0x0002 0b100100 [] 2 := rfl
theorem test_withFetchWord_jumps : ends (State.reset.withFetchWord 24 0x92344C)
    ⟨0x00, 0x00, 0x00, 0x00⟩ 0x9234 0b000100 [] 3 := rfl

/-! ## Witnesses: states and operands that meet the hypotheses of the statements -/

/-- A state with plain memory everywhere, S in the middle of the page, PC at an absolute JMP to itself. -/
def calm : State := start 0x0200 [0x4C, 0x00, 0x02] ⟨0x12, 0x34, 0x56, 0x80⟩ 0b000001 []

/-- S = 0x00, so that the stack wraps. -/
def wrapped : State := { calm with sp := 0x00 }

/-- D = 1 and valid BCD in A. -/
def decimalState : State := { calm with a := 0x99, p := flagsOf 0b001001 }

/-- The same under DECIMAL_FLAGS = nmos. -/
def decimalNmos : State := { decimalState with cfg := { decimalFlags := .nmos } }

/-- A part with 13 address pins and no RDY line, so that a scheduled halt never comes. -/
def small : State :=
  { calm with cfg := { part := .sy6504 }, halts := [{ cycles := 3, acts := [.write 0x0300 0x55] }] }

/-- A halt with a write of another bus master is due on the coming read. -/
def held : State := { calm with halts := [{ cycles := 3, acts := [.write 0x0300 0x55] }] }

/-- A halt without a write is due. -/
def heldQuietly : State := { calm with halts := [{ cycles := 3, acts := [] }] }

/-- ROM at the top, a device at 0x6000, one page of RAM mirrored at 0x7000, and a bank at 0x8000 that a write to the device
switches. -/
def mapped : State :=
  { calm with
    mem := memoryOf [(0x0200, 0x4C), (0x0202, 0x02), (0x12000, 0xB1)]
    cfg :=
      { map := [{ base := 0xF000, size := 0x1000, kind := .rom }, { base := 0x6000, size := 0x100, kind := .external },
                { base := 0x7000, size := 0x100, kind := .ram, cell := some 0x0300 },
                { base := 0x8000, size := 0x1000, kind := .ram, cell := some 0x12000, during := some 1 },
                { base := 0x9000, size := 1, kind := .watchedRam }, { base := 0x9001, size := 1, kind := .watchedRom }]
        devices := [{ state := 0, addr := 0x6000, access := .write 0x01, next := 1, pokes := [{ cell := 0x0010, val := 0x7E }] },
                    { state := 0, addr := 0x6000, access := .read, answer := some 0x99, next := 0 },
                    { state := 0, addr := 0x9000, access := .write 0x05, next := 1 }] } }

/-- One entry of passive devices: a read answers and changes nothing. -/
def passive : State :=
  { heldQuietly with
    cfg := { map := [{ base := 0x6000, size := 0x100, kind := .external }]
             devices := [{ state := 4, addr := 0x6000, access := .read, answer := some 0x99, next := 4 }] }
    plat := { state := 4, moves := [none] } }

/-- An undefined opcode at PC. -/
def lost : State := start 0x0200 [0x02] ⟨0x00, 0x00, 0x00, 0xFF⟩ 0b000000 []

/-- An instruction that straddles the top of memory. -/
def straddling : State := start 0xFFFF [0xAD, 0x34, 0x12] ⟨0x00, 0x00, 0x00, 0xFF⟩ 0b000000 [(0x1234, 0x77)]

/-! ## The platform: devices, mirrors, banks, another bus master (20_memory.md R55, R64, R66) -/

theorem test_withFetchWord_in_a_device_page : ends ({ mapped with pc := 0x60FF }.withFetchWord 16 0x80A9)
    ⟨0x80, 0x34, 0x56, 0x80⟩ 0x6101 0b100001 [] 2 := rfl
theorem test_mirror_reads_back : (mapped.busWrite 0x7005 0x42).peek 0x0305 = 0x42 := by decide
theorem test_device_answers : (mapped.busRead 0x6000).val = 0x99 := by decide
theorem test_device_write_switches_bank : mapped.peek 0x8000 = 0x00 ∧ (mapped.busWrite 0x6000 0x01).peek 0x8000 = 0xB1 ∧
    (mapped.busWrite 0x6000 0x01).peek 0x0010 = 0x7E := by decide
theorem test_watched_ram_keeps_and_switches : (mapped.busWrite 0x9000 0x05).peek 0x9000 = 0x05 ∧
    (mapped.busWrite 0x9000 0x05).plat.state = 1 := by decide
theorem test_device_moves_by_itself :
    ({ mapped with plat := { state := 3, moves := [some 0] } } : State).busRead 0x6000
      = { val := 0x99, st := { mapped with plat := { state := 0, moves := [] } } } := rfl

/-- A timer that counts 2, 1, 0 with the clock, holds IRQ low at 0, and is released by a read of 0x6000 (R370). -/
def timer (state : Nat) (bytes : List Byte) (flags : Nat) : State :=
  { start 0x0234 bytes ⟨0x00, 0x00, 0x00, 0xFF⟩ flags [(0xFFFF, 0x90)] with
    cfg :=
      { map := [{ base := 0x6000, size := 1, kind := .external }]
        devices := [{ state := 0, addr := 0x6000, access := .read, answer := some 0x80, next := 9 }]
        requests := [0], clocks := [{ state := 2, next := 1 }, { state := 1, next := 0 }] }
    plat := { state := state, moves := [] } }

/-- What the platform's state is after a step. -/
def platformAfter (s : State) : Option Nat :=
  match step s with
  | .next t => some t.plat.state
  | .fault _ => none
  | .refused _ => none

theorem test_device_counts_cycles : platformAfter (timer 2 [0xEA] 0b000000) = some 0 := rfl
theorem test_device_requests_irq : ends (timer 0 [0xEA] 0b010011)
    ⟨0x00, 0x00, 0x00, 0xFC⟩ 0x9000 0b010111 [(0x01FF, 0x02), (0x01FE, 0x34), (0x01FD, 0x63)] 7 := rfl
theorem test_device_request_masked : ends (timer 0 [0xEA] 0b010111)
    ⟨0x00, 0x00, 0x00, 0xFF⟩ 0x0235 0b010111 [] 2 := rfl
theorem test_device_releases_irq : platformAfter (timer 0 [0xAD, 0x00, 0x60] 0b000100) = some 9 := rfl
theorem test_withFetchWord_under_a_request : ends ((timer 0 [] 0b000000).withFetchWord 8 0xEA)
    ⟨0x00, 0x00, 0x00, 0xFF⟩ 0x0235 0b000000 [] 2 := rfl

/-- INC of a zero page byte, with another bus master's write between the read and the write: the processor's write is made
from the byte it read and comes last, so the other write is lost (R64). -/
theorem test_rmw_is_not_atomic : ends
    { start 0x0200 [0xE6, 0x40] ⟨0x00, 0x00, 0x00, 0xFF⟩ 0b000000 [(0x0040, 0x07)] with
      halts := [⟨0, []⟩, ⟨0, []⟩, ⟨0, []⟩, ⟨2, [.write 0x0040 0x70, .write 0x0041 0x71]⟩] }
    ⟨0x00, 0x00, 0x00, 0xFF⟩ 0x0202 0b000000 [(0x0041, 0x71), (0x0040, 0x08)] 7 := rfl

/-! ## Witnesses, one for each statement with hypotheses -/

theorem witness_DecodeOfEncode : (Instr.ldaAbs 0xFFFF).wellFormed = true := rfl
theorem witness_EncodeOfDecode : decode [0x4C, 0x34, 0x12, 0xEA] = .ok (.jmpAbs 0x1234, [0xEA]) := rfl
theorem witness_UndefinedOpcodeFaults_opcodes : (0x03 : Byte).toNat % 4 = 3 ∧ (0xFF : Byte).toNat % 4 = 3 := by decide
theorem witness_UndefinedOpcodeFaults : lost.poll = .execute lost ∧ (lost.busRead lost.pc).st.resPin ≠ .low ∧ (lost.busRead lost.pc).val.toNat ∉ definedOpcodes := by
  decide
theorem witness_StepRunsDecodedInstruction : straddling.poll = .execute straddling ∧
    (straddling.busRead straddling.pc).st.resPin ≠ .low ∧
    opcodeLength (straddling.busRead straddling.pc).val = some 3 ∧
    decode ((straddling.busRead straddling.pc).val ::
      ((straddling.busRead straddling.pc).st.readBytes (straddling.pc + 1) (3 - 1)).1) = .ok (.ldaAbs 0x1234, []) :=
  ⟨by decide, by decide, by decide, rfl⟩
theorem witness_StepRunsDecodedInstruction_cut : ∃ t, (calling (cutAfter 0)).poll = .execute t ∧
    (t.busRead t.pc).st.resPin = .low := ⟨_, rfl, rfl⟩
theorem witness_StepExecutesMemory : noEvent straddling ∧ (sampled straddling).notHeld ∧
    holdsInstruction (sampled straddling) (.ldaAbs 0x1234) := by decide
theorem witness_StepExecutesMemory_masked_irq : noEvent (boundary 0xFF 0b000100 false { irqLow := true, soEdge := true }) ∧
    (sampled (boundary 0xFF 0b000100 false { irqLow := true, soEdge := true })).notHeld ∧
    holdsInstruction (sampled (boundary 0xFF 0b000100 false { irqLow := true, soEdge := true })) .nop := by decide
theorem witness_StepStopsOnlyAtUndefinedOpcode : step lost = .fault (.undefinedOpcode 0x02) := rfl
theorem witness_BusTruncation : (0xFFFC : Word).toNat % 2 ^ pinsOf small.cfg.part
    = (0x1FFC : Word).toNat % 2 ^ pinsOf small.cfg.part := by decide
theorem witness_WriteKeptByRamOnly_reset : ({ mapped with resPin := .fallsAfter 0 } : State).resPin = .fallsAfter 0 ∧
    ({ mapped with resPin := .fallsAfter 1 } : State).resPin = .fallsAfter (0 + 1) ∧ mapped.resPin = .high := by decide
theorem witness_WriteKeptByRamOnly_ram : mapped.Inv ∧ mapped.notHeld ∧ mapped.kindAt 0x7005 = .ram ∧
    mapped.cellAt 0x0305 = mapped.cellAt 0x7005 ∧ (mapped.kindAt 0x0305).plain = true ∧
    mapped.cellAt 0x0306 ≠ mapped.cellAt 0x7005 := by decide
theorem witness_WriteKeptByRamOnly_rom : mapped.kindAt 0xFFFF = .rom ∧ mapped.kindAt 0xEFFF = .ram := by decide
theorem witness_WriteKeptByRamOnly_devices : mapped.plat.moves = [] ∧ mapped.kindAt 0x60FF = .external ∧
    mapped.kindAt 0x9000 = .watchedRam ∧ mapped.kindAt 0x9001 = .watchedRom ∧
    (mapped.ruleFor 0x6000 .read).bind (·.answer) = some 0x99 ∧ (mapped.ruleFor 0x60FF .read).bind (·.answer) = none := by
  decide
theorem witness_RdyHoldsReadsOnly_held : held.cfg.part ∈ rdyParts ∧ held.resPin ≠ .low ∧
    held.halts = { cycles := 3, acts := [.write 0x0300 0x55] } :: [] := by decide
theorem witness_RdyHoldsReadsOnly_free : small.cfg.part ∉ rdyParts ∧ calm.halts = [] := by decide
theorem witness_StackPrimitives : heldQuietly.undisturbed ∧ passive.undisturbed ∧ small.undisturbed := by decide
theorem witness_PullUndoesPush : wrapped.Inv ∧ wrapped.notHeld ∧ wrapped.kindAt (stack wrapped.sp) = .ram := by
  decide
theorem witness_OperandReadOnce : passive.undisturbed ∧ passive.kindAt 0x6000 = .external := by decide
theorem witness_Loads : ⟨.ldaImm 0x80, .imm 0x80, 0xA9, 2, 2⟩ ∈ ldaRows 0x80 0x10 0x1234 ∧
    ⟨.ldxZpY 0x10, .mem (.zpY 0x10), 0xB6, 2, 4⟩ ∈ ldxRows 0x80 0x10 0x1234 ∧
    ⟨.ldyAbsX 0x1234, .mem (.absX 0x1234), 0xBC, 3, 4⟩ ∈ ldyRows 0x80 0x10 0x1234 := by simp [ldaRows, ldxRows, ldyRows]
theorem witness_Stores : ⟨.staIndY 0x10, .indY 0x10, 0x91, 2, 6⟩ ∈ staRows 0x10 0x1234 ∧
    ⟨.stxZpY 0x10, .zpY 0x10, 0x96, 2, 4⟩ ∈ stxRows 0x10 0x1234 ∧
    ⟨.styZpX 0x10, .zpX 0x10, 0x94, 2, 4⟩ ∈ styRows 0x10 0x1234 := by simp [staRows, stxRows, styRows]
theorem witness_AdcBinary : ⟨.adcImm 0x80, .imm 0x80, 0x69, 2, 2⟩ ∈ adcRows 0x80 0x10 0x1234 ∧ calm.p.d = false := by
  refine ⟨by simp [adcRows], by decide⟩
theorem witness_SbcBinary : ⟨.sbcImm 0x80, .imm 0x80, 0xE9, 2, 2⟩ ∈ sbcRows 0x80 0x10 0x1234 ∧ calm.p.d = false := by
  refine ⟨by simp [sbcRows], by decide⟩
theorem witness_DecimalArithmetic : decimalState.p.d = true ∧ isBcd decimalState.a ∧
    ⟨.adcImm 0x99, .imm 0x99, 0x69, 2, 2⟩ ∈ adcRows 0x99 0x10 0x1234 ∧
    isBcd (operandOf decimalState ⟨.adcImm 0x99, .imm 0x99, 0x69, 2, 2⟩) ∧
    ⟨.sbcImm 0x99, .imm 0x99, 0xE9, 2, 2⟩ ∈ sbcRows 0x99 0x10 0x1234 ∧
    isBcd (operandOf decimalState ⟨.sbcImm 0x99, .imm 0x99, 0xE9, 2, 2⟩) := by
  refine ⟨rfl, by decide, by simp [adcRows], by decide, by simp [sbcRows], by decide⟩
theorem witness_DecimalArithmeticOnInvalidDigits : decimalState.p.d = true ∧
    ⟨.adcImm 0x0A, .imm 0x0A, 0x69, 2, 2⟩ ∈ adcRows 0x0A 0x10 0x1234 ++ sbcRows 0x0A 0x10 0x1234 ∧
    ¬ (isBcd decimalState.a ∧ isBcd (operandOf decimalState ⟨.adcImm 0x0A, .imm 0x0A, 0x69, 2, 2⟩)) := by
  refine ⟨rfl, by simp [adcRows], by decide⟩
theorem witness_NmosDecimalFlags : decimalNmos.p.d = true ∧ decimalNmos.cfg.decimalFlags = .nmos ∧ isBcd decimalNmos.a ∧
    isBcd (operandOf decimalNmos ⟨.adcImm 0x99, .imm 0x99, 0x69, 2, 2⟩) ∧
    isBcd (operandOf decimalNmos ⟨.sbcImm 0x99, .imm 0x99, 0xE9, 2, 2⟩) := by
  refine ⟨rfl, rfl, by decide, by decide, by decide⟩
theorem witness_OverflowIsSignedOverflow : calm.p.d = false ∧
    ⟨.adcImm 0x7F, .imm 0x7F, 0x69, 2, 2⟩ ∈ adcRows 0x7F 0x10 0x1234 ∧
    ⟨.sbcImm 0x7F, .imm 0x7F, 0xE9, 2, 2⟩ ∈ sbcRows 0x7F 0x10 0x1234 := by
  refine ⟨by decide, by simp [adcRows], by simp [sbcRows]⟩
theorem witness_CarryChainsAcrossBytes : calm.p.d = false := by decide
theorem witness_Logic : ⟨.andImm 0x80, .imm 0x80, 0x29, 2, 2⟩ ∈ andRows 0x80 0x10 0x1234 ∧
    ⟨.oraImm 0x80, .imm 0x80, 0x09, 2, 2⟩ ∈ oraRows 0x80 0x10 0x1234 ∧
    ⟨.eorImm 0x80, .imm 0x80, 0x49, 2, 2⟩ ∈ eorRows 0x80 0x10 0x1234 := by simp [andRows, oraRows, eorRows]
theorem witness_Compares : ⟨.cmpImm 0x80, .imm 0x80, 0xC9, 2, 2⟩ ∈ cmpRows 0x80 0x10 0x1234 ∧
    ⟨.cpxImm 0x80, .imm 0x80, 0xE0, 2, 2⟩ ∈ cpxRows 0x80 0x10 0x1234 ∧
    ⟨.cpyImm 0x80, .imm 0x80, 0xC0, 2, 2⟩ ∈ cpyRows 0x80 0x10 0x1234 := by simp [cmpRows, cpxRows, cpyRows]
theorem witness_BitTest : ⟨.bitZp 0x10, .mem (.zp 0x10), 0x24, 2, 3⟩ ∈ bitRows 0x10 0x1234 := by simp [bitRows]
theorem witness_IncrementsOfMemory : ⟨.incZp 0x10, .zp 0x10, 0xE6, 2, 5⟩ ∈ incRows 0x10 0x1234 ∧
    ⟨.decZp 0x10, .zp 0x10, 0xC6, 2, 5⟩ ∈ decRows 0x10 0x1234 := by simp [incRows, decRows]
theorem witness_Shifts : ⟨.aslZp 0x10, .zp 0x10, 0x06, 2, 5⟩ ∈ aslRows 0x10 0x1234 ∧
    ⟨.lsrZp 0x10, .zp 0x10, 0x46, 2, 5⟩ ∈ lsrRows 0x10 0x1234 := by simp [aslRows, lsrRows]
theorem witness_Rotates : ⟨.rolZp 0x10, .zp 0x10, 0x26, 2, 5⟩ ∈ rolRows 0x10 0x1234 ∧
    ⟨.rorZp 0x10, .zp 0x10, 0x66, 2, 5⟩ ∈ rorRows 0x10 0x1234 := by simp [rolRows, rorRows]
theorem witness_Branches : (.bcc 0x80, 0x90, !calm.p.c) ∈ branchRows 0x80 calm.p ∧
    (.bcs 0x7F, 0xB0, calm.p.c) ∈ branchRows 0x7F calm.p := by simp [branchRows]
theorem witness_ReturnUndoesJump : wrapped.Inv ∧ wrapped.notHeld ∧ wrapped.kindAt (stack wrapped.sp) = .ram ∧
    wrapped.kindAt (stack (wrapped.sp - 1)) = .ram ∧
    wrapped.cellAt (stack wrapped.sp) ≠ wrapped.cellAt (stack (wrapped.sp - 1)) := by decide
theorem witness_InterruptFrame : wrapped.Inv ∧ wrapped.notHeld ∧ frameInRam wrapped ∧ vectorInMemory wrapped 0xFFFE ∧
    wrapped.cellAt 0x01FD ≠ wrapped.cellAt (stack wrapped.sp) ∧
    wrapped.cellAt 0x01FD ≠ wrapped.cellAt (stack (wrapped.sp - 1)) ∧
    wrapped.cellAt 0x01FD ≠ wrapped.cellAt (stack (wrapped.sp - 2)) := by decide
theorem witness_ReturnUndoesInterrupt : calm.Inv ∧ calm.notHeld ∧ frameInRam calm ∧
    vectorInMemory calm 0xFFFA := by decide
theorem witness_BoundaryOrder_reset :
    (due (boundary 0xFF 0b000000 true { res := some ⟨0, 0, 0, 0, false, false, false, false, false⟩, nmiEdge := true })).res
      = some ⟨0, 0, 0, 0, false, false, false, false, false⟩ := rfl
theorem witness_BoundaryOrder_no_reset : (due calm).res = none ∧
    (due (boundary 0xFF 0b000000 false { nmiEdge := true, irqLow := true })).res = none := ⟨rfl, rfl⟩
theorem witness_AbsentPins : small.cfg.part ∉ rdyParts := by decide
theorem witness_NmiServedOnce_served :
    (∃ t, step (boundary 0xFF 0b000100 true { nmiEdge := true }) = .next t) ∧
    (due (boundary 0xFF 0b000100 true { nmiEdge := true })).res = none ∧
    (sampled (boundary 0xFF 0b000100 true { nmiEdge := true })).nmiPending = true := ⟨⟨_, rfl⟩, rfl, rfl⟩
theorem witness_NmiServedOnce_none : (∃ t, step calm = .next t) ∧ calm.nmiPending = false ∧ (due calm).nmiEdge = false :=
  ⟨⟨_, rfl⟩, rfl, rfl⟩
theorem witness_MaskSampling_delayed :
    ({ calm with cfg := { intISample := .delayed } } : State).cfg.intISample = .delayed ∧
    Instr.cli.mnemonic ∈ [Mnemonic.cli, .sei, .plp] ∧ Instr.rti.mnemonic ∉ [Mnemonic.cli, .sei, .plp] := by decide
theorem witness_ResetSequence : passive.devicesPassive ∧ vectorInMemory mapped 0xFFFC := by decide
theorem witness_ResetSequence_cut : (due (calling (cutAfter 4))).cuts.getLast? = (cutAfter 4).cuts.head? ∧
    (due (calling (cutAfter 0))).cuts = (cutAfter 0).cuts ∧
    (∃ t, step (calling (cutAfter 4)) = .next t) ∧ (calling (cutAfter 0)).undisturbed := ⟨rfl, rfl, ⟨_, rfl⟩, by decide⟩
theorem witness_StepKeepsInvariant : mapped.Inv ∧ ∃ t, step mapped = .next t := ⟨by decide, ⟨_, rfl⟩⟩
theorem witness_OnlyListedRegistersChange : writesA (.staAbs 0x1234) = false ∧ writesNZ .txs = false ∧
    writesC .inx = false ∧ transfers .pha = false ∧
    Instr.nop.mnemonic ∉ [Mnemonic.ldx, .tax, .tsx, .inx, .dex] ∧ Instr.nop.mnemonic ∉ [Mnemonic.ldy, .tay, .iny, .dey] ∧
    Instr.nop.mnemonic ∉ [Mnemonic.txs, .pha, .php, .pla, .plp, .jsr, .rts, .brk, .rti] ∧
    Instr.brk.mnemonic ∉ [Mnemonic.adc, .sbc, .bit, .clv, .plp, .rti] ∧
    Instr.brk.mnemonic ∉ [Mnemonic.cld, .sed, .plp, .rti] ∧
    (Instr.jmpAbs 0x1234).mnemonic ∉ [Mnemonic.cli, .sei, .plp, .brk, .rti] := by decide
theorem witness_MemoryChangesOnlyWhereStored : passive.undisturbed ∧
    (∀ w ∈ storedAt (.jsr 0x1234) passive, passive.cellAt 0x0181 ≠ passive.cellAt w) ∧
    (∀ w ∈ storedAt (.incAbs 0xFFFF) passive, passive.cellAt 0x0000 ≠ passive.cellAt w) := by
  have e : storedAt (.jsr 0x1234) passive = [0x0180, 0x017F] := rfl
  have f : storedAt (.incAbs 0xFFFF) passive = [0xFFFF] := rfl
  rw [e, f]
  simp only [List.mem_cons, List.not_mem_nil, or_false, forall_eq_or_imp, forall_eq]
  decide
theorem witness_OnlyArithmeticReadsD :
    (Instr.aslZp 0x10).mnemonic ∉ [Mnemonic.adc, .sbc, .php, .brk, .plp, .rti, .cld, .sed] ∧
    Instr.cld.mnemonic ∈ [Mnemonic.plp, .rti, .cld, .sed] ∧ Instr.plp.mnemonic ∈ [Mnemonic.plp, .rti, .cld, .sed] := by decide
theorem witness_JumpToSelfNeverEnds : calm.quiet ∧ calm.nmiPending = false ∧ holdsInstruction calm (.jmpAbs calm.pc) := by
  decide

end Sys2Proof.Tests
end

section
/-! PROOFS. A pin the part does not have (00_scope.md R3, R8; D3): the claims' lists of parts agree with the members
table, the polling ignores what an absent pin carries, and a read cycle looks at the schedule of halts only where RDY
can hold the processor. -/

namespace Sys2Proof.Proofs

open Sys2Proof.Machine Sys2Proof.Claims

/-! ## The members table and the claims' lists of parts -/

theorem hasNmi_eq (part : Part) : hasNmi part = decide (part ∈ nmiParts) := by
  cases part <;> rfl

theorem hasSo_eq (part : Part) : hasSo part = decide (part ∈ soParts) := by
  cases part <;> rfl

theorem hasIrq_eq (part : Part) : hasIrq part = decide (part ≠ .sy6507) := by
  cases part <;> rfl

theorem hasRdy_eq (part : Part) : hasRdy part = decide (part ∈ rdyParts) := by
  cases part <;> rfl

/-! ## The polling of a boundary -/

theorem sampleSo_seenBy (s : State) (inp : BoundaryInputs) :
    s.sampleSo (seenBy s.cfg.part inp) = s.sampleSo inp := by
  have gated : (hasSo s.cfg.part && (seenBy s.cfg.part inp).soEdge) = (hasSo s.cfg.part && inp.soEdge) := by
    simp only [seenBy, hasSo_eq, Bool.and_left_comm, Bool.and_self, Bool.and_comm]
  rw [State.sampleSo_spec, State.sampleSo_spec, gated]

theorem sampleNmi_seenBy (s : State) (inp : BoundaryInputs) :
    s.sampleNmi (seenBy s.cfg.part inp) = s.sampleNmi inp := by
  have gated : (hasNmi s.cfg.part && (seenBy s.cfg.part inp).nmiEdge) = (hasNmi s.cfg.part && inp.nmiEdge) := by
    simp only [seenBy, hasNmi_eq, Bool.and_left_comm, Bool.and_self, Bool.and_comm]
  rw [State.sampleNmi_spec, State.sampleNmi_spec, gated]

theorem sampleSo_cfg (s : State) (inp : BoundaryInputs) : (s.sampleSo inp).cfg = s.cfg := by
  rw [State.sampleSo_spec, State.setP_cfg]

/-- S.O. and NMI together, as the polling samples them. -/
theorem sampleEdges_seenBy {s : State} {part : Part} (h : s.cfg.part = part) (inp : BoundaryInputs) :
    (s.sampleSo (seenBy part inp)).sampleNmi (seenBy part inp) = (s.sampleSo inp).sampleNmi inp := by
  subst h
  rw [sampleSo_seenBy, ← sampleSo_cfg s inp, sampleNmi_seenBy]

/-- Without an IRQ pin the line has no effect; with one, the part sees it as it is. -/
theorem irqLineLow_seenBy (part : Part) (s : State) (inp : BoundaryInputs) :
    (hasIrq part && s.irqLineLow (seenBy part inp)) = (hasIrq part && s.irqLineLow inp) := by
  cases pin : hasIrq part with
  | false => rfl
  | true =>
    rw [hasIrq_eq] at pin
    simp only [State.irqLineLow, seenBy, pin, Bool.and_true]

theorem seenBy_res (part : Part) (inp : BoundaryInputs) : (seenBy part inp).res = inp.res := rfl
theorem seenBy_devices (part : Part) (inp : BoundaryInputs) : (seenBy part inp).devices = inp.devices := rfl
theorem seenBy_cuts (part : Part) (inp : BoundaryInputs) : (seenBy part inp).cuts = inp.cuts := rfl

/-- The edges and the IRQ line are the only inputs a part may lack, and the polling gates each of them by its pin. -/
theorem poll_seenBy (s : State) (inp : BoundaryInputs) (rest : List BoundaryInputs) :
    (s.setInputs (inp :: rest)).poll = (s.setInputs (seenBy s.cfg.part inp :: rest)).poll := by
  have arrival (l : List BoundaryInputs) : (s.setInputs l).setInputs rest = s.setInputs rest := rfl
  have edges := sampleEdges_seenBy (part := s.cfg.part)
    (s := ((s.setInputs rest).platformMoved inp.devices).setResPin (resPinOf inp.cuts)) rfl inp
  unfold State.poll
  simp only [State.currentInputs, State.setInputs_inputs, List.headD_cons, List.tail_cons, State.setInputs_cfg,
    arrival, seenBy_res, seenBy_devices, seenBy_cuts, edges, irqLineLow_seenBy]

/-! ## The platform does not look at the schedule of halts -/

theorem poke_setHalts (s : State) (l : List Halt) (cell : Nat) (v : Byte) :
    (s.setHalts l).poke cell v = (s.poke cell v).setHalts l := by
  unfold State.poke
  rw [State.setHalts_cfg]
  split <;> rfl

theorem pokeAll_setHalts (s : State) (l : List Halt) (ps : List Poke) :
    (s.setHalts l).pokeAll ps = (s.pokeAll ps).setHalts l :=
  List.foldl_hom (State.setHalts · l) fun t q => poke_setHalts t l q.cell q.val

theorem devicesMove_setHalts (s : State) (l : List Halt) :
    (s.setHalts l).devicesMove = s.devicesMove.setHalts l := by
  unfold State.devicesMove
  rw [State.setHalts_plat]
  split <;> rfl

theorem follow_setHalts (s : State) (l : List Halt) (r : Option DeviceRule) :
    (s.setHalts l).follow r = (s.follow r).setHalts l := by
  cases r with
  | none => rfl
  | some r => exact congrArg (State.setPlat · _) (pokeAll_setHalts s l r.pokes)

theorem deviceRead_setHalts (s : State) (l : List Halt) (addr : Word) (behind : Option Byte) :
    (s.setHalts l).deviceRead addr behind =
      { val := (s.deviceRead addr behind).val, st := (s.deviceRead addr behind).st.setHalts l } := by
  have rule (t : State) : (t.setHalts l).ruleFor addr .read = t.ruleFor addr .read := rfl
  unfold State.deviceRead
  simp only [devicesMove_setHalts, rule, follow_setHalts]
  split <;> rfl

theorem platformRead_setHalts (s : State) (l : List Halt) (addr : Word) :
    (s.setHalts l).platformRead addr =
      { val := (s.platformRead addr).val, st := (s.platformRead addr).st.setHalts l } := by
  have kind : (s.setHalts l).kindAt addr = s.kindAt addr := rfl
  unfold State.platformRead
  rw [kind]
  split
  · rfl
  · rfl
  all_goals exact deviceRead_setHalts s l addr _

theorem processorRead_setHalts (s : State) (l : List Halt) (addr : Word) :
    (s.setHalts l).processorRead addr =
      { val := (s.processorRead addr).val, st := (s.processorRead addr).st.setHalts l } := by
  have pin (r : ResPin) : (s.setHalts l).setResPin r = (s.setResPin r).setHalts l := rfl
  unfold State.processorRead
  simp only [State.setHalts_resPin, pin, platformRead_setHalts]
  split <;> rfl

/-! ## RDY -/

theorem takeHalt_of_noRdy (s : State) (h : s.cfg.part ∉ rdyParts) : s.takeHalt = s := by
  simp only [State.takeHalt, hasRdy_eq, h, decide_false, Bool.false_and, Bool.false_eq_true, if_false]

/-- On a part without RDY a read cycle leaves the schedule of halts where it is. -/
theorem busRead_setHalts_of_noRdy (s : State) (h : s.cfg.part ∉ rdyParts) (addr : Word) (l : List Halt) :
    (s.setHalts l).busRead addr = { val := (s.busRead addr).val, st := (s.busRead addr).st.setHalts l } := by
  unfold State.busRead
  rw [takeHalt_of_noRdy s h, takeHalt_of_noRdy (s.setHalts l) h, processorRead_setHalts]

/-- Settles O50: the polling through `poll_seenBy`, RDY through `busRead_setHalts_of_noRdy`. -/
theorem absentPins : Obligations.AbsentPins := by
  intro s
  exact ⟨poll_seenBy s, busRead_setHalts_of_noRdy s⟩

end Sys2Proof.Proofs
end

section
/-! PROOFS. RDY (10_state.md R44, 20_memory.md R66): where a halt is due, and where none can come. -/

namespace Sys2Proof.Proofs

open Sys2Proof.Machine Sys2Proof.Claims

/-! ## When RDY holds the processor, and what happens meanwhile -/

/-- The halt that is due is taken: it leaves the schedule, its cycles are counted, the other bus master acts (R66). -/
theorem takeHalt_of_due {s : State} {h : Halt} {rest : List Halt} (hasPin : s.cfg.part ∈ rdyParts)
    (resUp : s.resPin ≠ .low) (due : s.halts = h :: rest) :
    s.takeHalt = ((s.setHalts rest).tick h.cycles).masterActs h.acts := by
  have gate : (hasRdy s.cfg.part && s.resPin != .low) = true := by
    rw [hasRdy_eq, decide_eq_true hasPin, Bool.true_and, bne_iff_ne]
    exact resUp
  unfold State.takeHalt
  rw [if_pos gate, due]

theorem takeHalt_of_noneDue (s : State) (h : s.halts = []) : s.takeHalt = s := by
  unfold State.takeHalt
  rw [h]
  exact ite_self s

/-- Once RES is low RDY holds nothing (R217). -/
theorem takeHalt_of_resLow (s : State) (h : s.resPin = .low) : s.takeHalt = s := by
  simp only [State.takeHalt, h, bne_self_eq_false, Bool.and_false, Bool.false_eq_true, if_false]

/-! ## The read after the halt -/

/-- While RES is high a read completes after its halt with the byte then on the bus: no halt moves RES (R66). -/
theorem busRead_of_high (s : State) (addr : Word) (h : s.resPin = .high) :
    s.busRead addr = s.takeHalt.platformRead addr :=
  State.processorRead_of_high s.takeHalt addr ((State.takeHalt_resPin s).trans h)

/-- Settles O11: the halt by `takeHalt_of_due`; one lemma for each reason why nothing holds the processor; the frames of
a read and of a write by the laws of the bus. -/
theorem rdyHoldsReadsOnly : Obligations.RdyHoldsReadsOnly := by
  intro s addr
  refine ⟨fun h rest hasPin resUp due => ?held, fun free => ?free, rfl, busRead_of_high s addr,
    State.busRead_busOnly s addr, fun v => ⟨State.busWrite_cycles s addr v, State.busWrite_halts s addr v⟩⟩
  case held =>
    rw [takeHalt_of_due hasPin resUp due]
    refine List.foldl_ext _ _ _ fun t act _ => ?_
    cases act <;> rfl
  case free =>
    obtain noRdy | noneDue | resLow := free
    · exact takeHalt_of_noRdy s noRdy
    · exact takeHalt_of_noneDue s noneDue
    · exact takeHalt_of_resLow s resLow

end Sys2Proof.Proofs
end

section
/-! PROOFS. The decoder and the encoder (30_encoding.md R83, R100, R104, R105): the instruction an opcode and two bytes stand for
encodes to them again, the opcode alone decides the length, and so each of the two maps undoes the other. -/

namespace Sys2Proof.Proofs

open Sys2Proof.Machine Sys2Proof.Claims

/-! ## Lengths -/

theorem instrLength_bounds (i : Instr) : 1 ≤ instrLength i ∧ instrLength i ≤ 3 := by
  unfold instrLength
  cases instrMode i <;> decide

theorem operandBytes_length (i : Instr) : (operandBytes i).length = instrLength i - 1 := by
  cases i <;> rfl

theorem encode_length (i : Instr) : (encode i).length = instrLength i := by
  have := instrLength_bounds i
  rw [encode, List.length_cons, operandBytes_length]
  omega

theorem imageWellFormed_encode (i : Instr) : imageWellFormed (encode i) = true := by
  obtain ⟨nonempty, short⟩ := instrLength_bounds i
  simp only [imageWellFormed, encode_length, nonempty, short, decide_true, Bool.and_self]

/-! ## The rows of the table -/

/-- An opcode and the operand bytes of its instruction stand for that instruction, whatever follows them. Once the opcode
is a literal the table reduces to its row; an address comes back from its two bytes by `mkWord_hi8_lo8`. -/
theorem decodeOpcode_encode (i : Instr) (rest : List Byte) :
    decodeOpcode (opcode i) ((operandBytes i ++ rest).getD 0 0) ((operandBytes i ++ rest).getD 1 0) = some i := by
  cases i
  all_goals dsimp only [opcode]
  all_goals conv_lhs => whnf
  all_goals simp only [operandBytes, List.cons_append, List.getD_cons_zero, List.getD_cons_succ, mkWord_hi8_lo8]

/-- What an opcode and two bytes stand for has that opcode, and as many of the bytes as it asks for as its operand. -/
theorem opcode_operandBytes_of_decodeOpcode {op b1 b2 : Byte} {i : Instr} (h : decodeOpcode op b1 b2 = some i) :
    opcode i = op ∧ operandBytes i = [b1, b2].take (instrLength i - 1) := by
  unfold decodeOpcode at h
  split at h
  all_goals cases h
  all_goals
    rename_i value
    refine ⟨(BitVec.eq_of_toNat_eq value).symm, ?_⟩
    simp [operandBytes, instrLength, instrMode, modeLength]

/-- The opcode alone decides the length (R80, R105). -/
theorem opcodeLength_eq (op b1 b2 : Byte) : opcodeLength op = (decodeOpcode op b1 b2).map instrLength := by
  unfold opcodeLength decodeOpcode
  split <;> rfl

theorem opcodeLength_opcode (i : Instr) : opcodeLength (opcode i) = some (instrLength i) := by
  rw [opcodeLength_eq, decodeOpcode_encode i [], Option.map_some]

/-! ## Decoding bytes -/

/-- When a list of bytes decodes: its first three bytes stand for the instruction and no operand byte is missing; the
instruction's own bytes are then taken off. -/
theorem decode_cons_eq_ok_iff (op : Byte) (tail : List Byte) (i : Instr) (rest : List Byte) :
    decode (op :: tail) = .ok (i, rest) ↔
      decodeOpcode op (tail.getD 0 0) (tail.getD 1 0) = some i ∧ instrLength i - 1 ≤ tail.length ∧
        tail.drop (instrLength i - 1) = rest := by
  rw [decode, opcodeLength_eq op (tail.getD 0 0) (tail.getD 1 0)]
  cases decodeOpcode op (tail.getD 0 0) (tail.getD 1 0) with
  | none => simp
  | some j =>
    rw [Option.map_some]
    by_cases short : tail.length < instrLength j - 1
    · simp only [short, if_true, reduceCtorEq, Option.some.injEq, false_iff]
      rintro ⟨rfl, long, -⟩
      omega
    · simp only [short, if_false, Except.ok.injEq, Prod.mk.injEq, Option.some.injEq]
      refine and_congr_right fun same => ?_
      subst same
      exact (and_iff_right (Nat.le_of_not_lt short)).symm

theorem decode_encode (i : Instr) (rest : List Byte) : decode (encode i ++ rest) = .ok (i, rest) := by
  have length := operandBytes_length i
  rw [encode, List.cons_append, decode_cons_eq_ok_iff]
  refine ⟨decodeOpcode_encode i rest, ?_, List.drop_left' length⟩
  rw [List.length_append]
  omega

theorem take_getD_pair (tail : List Byte) {n : Nat} (small : n ≤ 2) (long : n ≤ tail.length) :
    [tail.getD 0 0, tail.getD 1 0].take n = tail.take n := by
  match n, tail, small, long with
  | 0, _, _, _ => rfl
  | 1, _ :: _, _, _ => rfl
  | 2, _ :: _ :: _, _, _ => rfl

theorem encode_of_decode (bytes : List Byte) (i : Instr) (rest : List Byte) (h : decode bytes = .ok (i, rest)) :
    bytes = encode i ++ rest := by
  cases bytes with
  | nil => cases h
  | cons op tail =>
    obtain ⟨row, long, rfl⟩ := (decode_cons_eq_ok_iff _ _ _ _).1 h
    obtain ⟨first, operands⟩ := opcode_operandBytes_of_decodeOpcode row
    have short : instrLength i - 1 ≤ 2 := by
      have := instrLength_bounds i
      omega
    rw [take_getD_pair tail short long] at operands
    rw [encode, first, operands, List.cons_append, List.take_append_drop]

/-- Settles O1: the round trip is `decode_encode`; the lengths follow from the mode. -/
theorem decodeOfEncode : Obligations.DecodeOfEncode := by
  intro i rest _
  exact ⟨decode_encode i rest, encode_length i, imageWellFormed_encode i⟩

/-- Settles O2, by `encode_of_decode`. -/
theorem encodeOfDecode : Obligations.EncodeOfDecode :=
  encode_of_decode

/-- Settles O4: each word is the encoding of the instruction it stands for, so `decode_encode` decodes it. -/
theorem decodedSampleWords : Obligations.DecodedSampleWords :=
  ⟨decode_encode (.ldaAbsX 0x12FF) [], decode_encode (.stxZpY 0xF0) [], decode_encode .txs [],
    decode_encode (.adcIndY 0x40) [], decode_encode (.bitAbs 0x1234) [], decode_encode (.cmpImm 0x41) [],
    decode_encode (.incZpX 0xFF) [], decode_encode .rorAcc [], decode_encode (.bne 0xFB) [],
    decode_encode (.jmpInd 0x30FF) [], decode_encode .plp [], decode_encode .sei [], decode_encode .brk [0xEA]⟩

end Sys2Proof.Proofs
end

section
/-! PROOFS. A step without an event (30_encoding.md R81, 60_exceptions.md R204, R217): what ends a step, what the polling
leads to, what is fetched, and what is then run. -/

namespace Sys2Proof.Proofs

open Sys2Proof.Machine Sys2Proof.Claims

/-! ## The end of a step -/

theorem currentInputs_eq_due (s : State) : s.currentInputs = due s := by
  unfold State.currentInputs due
  cases s.inputs <;> rfl

theorem resPinOf_eq_resDuring (cuts : List ResetCut) : resPinOf cuts = resDuring cuts := by
  cases cuts <;> rfl

theorem afterCuts_eq_restarted (t : State) (start : Nat) (cuts : List ResetCut) :
    t.afterCuts start cuts = restarted start cuts t := by
  induction cuts generalizing t start with
  | nil => rfl
  | cons cut rest ih =>
    rw [State.afterCuts, ih, resPinOf_eq_resDuring]
    rfl

theorem endStep_eq_ended (t s : State) : ended s (.next t) = .next (t.endStep s) := by
  rw [State.endStep, afterCuts_eq_restarted, currentInputs_eq_due]
  rfl

/-- A step is what its boundary starts, and then the end of every step (R204, R217). -/
theorem step_eq_ended (s : State) : step s = ended s s.run := by
  unfold step
  cases s.run with
  | next t => exact (endStep_eq_ended t s).symm
  | fault f => rfl
  | refused r => rfl

/-! ## From the fetch to the step -/

theorem run_of_cutShort {s t u : State} (polled : s.poll = .execute t) (fetched : t.fetch = .cutShort u) :
    s.run = .next u := by
  simp only [State.run, polled, fetched]

theorem run_of_instr {s t u : State} {i : Instr} (polled : s.poll = .execute t) (fetched : t.fetch = .instr i u) :
    s.run = exec i u := by
  simp only [State.run, polled, fetched]

theorem fetch_of_resLow {t : State} (low : (t.busRead t.pc).st.resPin = .low) :
    t.fetch = .cutShort (t.busRead t.pc).st := by
  rw [State.fetch, if_pos low]

theorem fetch_of_decode {t : State} {len : Nat} {i : Instr} {rest : List Byte}
    (up : (t.busRead t.pc).st.resPin ≠ .low) (asks : opcodeLength (t.busRead t.pc).val = some len)
    (decodes : decode ((t.busRead t.pc).val :: ((t.busRead t.pc).st.readBytes (t.pc + 1) (len - 1)).1) = .ok (i, rest)) :
    t.fetch = .instr i ((t.busRead t.pc).st.readBytes (t.pc + 1) (len - 1)).2 := by
  simp only [State.fetch, if_neg up, asks, decodes]

/-- Settles O5: the fetch by `fetch_of_resLow` and `fetch_of_decode`, the end of the step by `step_eq_ended`. -/
theorem stepRunsDecodedInstruction : Obligations.StepRunsDecodedInstruction := by
  intro s t polled
  refine ⟨fun low => ?cut, fun up len i rest asks decodes => ?whole⟩
  case cut => rw [step_eq_ended, run_of_cutShort polled (fetch_of_resLow low)]
  case whole => rw [step_eq_ended, run_of_instr polled (fetch_of_decode up asks decodes)]

/-! ## The polling of a boundary without an event -/

/-- The state in which NMI and IRQ are looked at is the claims' `sampled` (R204). -/
theorem sampleEdges_eq_sampled (s : State) :
    ((((s.setInputs s.inputs.tail).platformMoved (due s).devices).setResPin (resPinOf (due s).cuts)).sampleSo (due s)).sampleNmi
      (due s) = sampled s := by
  rw [State.sampleNmi_spec, State.sampleSo_spec, resPinOf_eq_resDuring]
  simp only [State.setP_cfg, State.setResPin_cfg, hasSo_eq, hasNmi_eq]
  rfl

theorem irqTaken_eq (s : State) :
    irqTaken s = (hasIrq s.cfg.part && (sampled s).irqLineLow (due s) && !(sampled s).maskSeen) := by
  rw [hasIrq_eq, State.irqLineLow, List.contains_eq_mem]
  rfl

theorem poll_of_noEvent {s : State} (h : noEvent s) : s.poll = .execute (sampled s) := by
  obtain ⟨noReset, -, noNmi, noIrq⟩ := h
  rw [irqTaken_eq] at noIrq
  simp only [State.poll, currentInputs_eq_due, noReset, sampleEdges_eq_sampled, noNmi, noIrq, Bool.false_eq_true, if_false]

/-! ## An instruction in plain memory -/

/-- Bytes that stand in plain memory are read one after the other, and reading them changes nothing. `k` counts the bytes
already read from `base` on. -/
theorem readBytes_of_standing (s : State) (notHeld : s.notHeld) (base : Word) (bytes : List Byte) (k : Nat)
    (stand : ∀ q ∈ bytes.zipIdx k, (s.kindAt (base + BitVec.ofNat 16 q.2)).plain = true ∧
      s.peek (base + BitVec.ofNat 16 q.2) = q.1) :
    s.readBytes (base + BitVec.ofNat 16 k) bytes.length = (bytes, s) := by
  induction bytes generalizing k with
  | nil => rfl
  | cons b rest ih =>
    rw [List.zipIdx_cons, List.forall_mem_cons] at stand
    obtain ⟨⟨plain, byte⟩, standRest⟩ := stand
    have next : base + BitVec.ofNat 16 k + 1 = base + BitVec.ofNat 16 (k + 1) := by
      rw [BitVec.ofNat_add, BitVec.add_assoc]
      rfl
    rw [List.length_cons, State.readBytes, State.busRead_plain s _ notHeld plain, next, ih (k + 1) standRest, byte]

theorem fetch_of_holdsInstruction {t : State} {i : Instr} (notHeld : t.notHeld) (holds : holdsInstruction t i) :
    t.fetch = .instr i t := by
  rw [holdsInstruction, encode, List.zipIdx_cons, List.forall_mem_cons] at holds
  obtain ⟨⟨plain, byte⟩, standRest⟩ := holds
  have first : t.busRead t.pc = { val := opcode i, st := t } := by
    simp only [BitVec.add_zero] at plain byte
    rw [State.busRead_plain t _ notHeld plain, byte]
  have operands : t.readBytes (t.pc + 1) (instrLength i - 1) = (operandBytes i, t) := by
    rw [← operandBytes_length]
    exact readBytes_of_standing t notHeld t.pc (operandBytes i) 1 standRest
  have fetched := fetch_of_decode (t := t) (len := instrLength i) (i := i) (rest := [])
  rw [first, operands] at fetched
  refine fetched ?_ (opcodeLength_opcode i) ?_
  · rw [notHeld.1]
    decide
  · rw [← encode, ← List.append_nil (encode i), decode_encode]

/-- Settles O6: `poll_of_noEvent`, then `fetch_of_holdsInstruction`, then the end of the step by `step_eq_ended`. -/
theorem stepExecutesMemory : Obligations.StepExecutesMemory := by
  intro s i idle notHeld holds
  rw [step_eq_ended, run_of_instr (poll_of_noEvent idle) (fetch_of_holdsInstruction notHeld holds)]

end Sys2Proof.Proofs
end

section
/-! PROOFS. The addressing modes that read nothing themselves (30_encoding.md R86 to R90): the model's byte order and zero
extension are the claims' arithmetic. -/

namespace Sys2Proof.Proofs

open Sys2Proof.Machine Sys2Proof.Claims

theorem mkWord_eq_word (hi lo : Byte) : mkWord hi lo = word hi lo := by
  apply BitVec.eq_of_toNat_eq
  have := hi.isLt
  have := lo.isLt
  rw [mkWord_toNat, word, BitVec.toNat_ofNat, Nat.mod_eq_of_lt (by omega)]

theorem zext_eq_ofNat (v : Byte) : zext v = BitVec.ofNat 16 v.toNat := by
  apply BitVec.eq_of_toNat_eq
  have := v.isLt
  rw [zext_toNat, BitVec.toNat_ofNat, Nat.mod_eq_of_lt (by omega)]

/-- Indexing in page zero wraps inside page zero (R90). -/
theorem zext_add (b index : Byte) : zext (b + index) = BitVec.ofNat 16 ((b.toNat + index.toNat) % 256) := by
  rw [zext_eq_ofNat, BitVec.toNat_add]

theorem decode_ldaAbs (lo hi : Byte) : decode [0xAD, lo, hi] = .ok (.ldaAbs (word hi lo), []) := by
  rw [← mkWord_eq_word]
  rfl

theorem locate_zp (s : State) (b : Byte) :
    s.locate (.zp b) = { ea := BitVec.ofNat 16 b.toNat, crossed := false, st := s } := by
  rw [State.locate, zext_eq_ofNat]

theorem locate_zpX (s : State) (b : Byte) :
    s.locate (.zpX b) = { ea := BitVec.ofNat 16 ((b.toNat + s.x.toNat) % 256), crossed := false, st := s } := by
  rw [State.locate, zext_add]

theorem locate_zpY (s : State) (b : Byte) :
    s.locate (.zpY b) = { ea := BitVec.ofNat 16 ((b.toNat + s.y.toNat) % 256), crossed := false, st := s } := by
  rw [State.locate, zext_add]

/-- Settles O14: the zero page modes by `locate_zp`, `locate_zpX` and `locate_zpY`, the byte order by `decode_ldaAbs`. -/
theorem directModes : Obligations.DirectModes := by
  intro s b b2 w
  exact ⟨⟨rfl, rfl, rfl, rfl, rfl⟩, decode_ldaAbs b b2, rfl, rfl, locate_zp s b, locate_zpX s b, locate_zpY s b⟩

end Sys2Proof.Proofs
end

section
/-! PROOFS. What an instruction with an operand is applied to, in the claims' terms: the model's start of an instruction, its
N and Z, its read of the operand and its store are the claims' arithmetic (10_state.md R33; 30_encoding.md R82, R86). -/

namespace Sys2Proof.Proofs

open Sys2Proof.Machine Sys2Proof.Claims

theorem advance_eq_started (s : State) (len n : Nat) : s.advance len n = started s len n := by
  have pc : s.pc + BitVec.ofNat 16 len = BitVec.ofNat 16 (s.pc.toNat + len) := by
    rw [BitVec.ofNat_add, BitVec.ofNat_toNat, BitVec.setWidth_eq]
  rw [started, ← pc]
  rfl

theorem setNZ_eq_nz (p : Flags) (v : Byte) : p.setNZ v = nz p v := by
  have zero : (v == 0) = decide (v.toNat = 0) := by
    rw [Bool.eq_iff_iff, beq_iff_eq, decide_eq_true_iff, ← BitVec.toNat_inj]
    rfl
  rw [Flags.setNZ, nz, top, zero, BitVec.msb_eq_decide]

/-! ## Reading an operand -/

/-- The row's instruction is encoded as the row says and applies `act` to its operand. -/
structure Reads (act : State → Byte → State) (f : ReadRow) : Prop where
  encoded : encodedAs f.instr f.op f.len
  meaning : ∀ s, exec f.instr s = .next ((s.advance f.len f.n).withOperand f.operand act)

theorem afterRead_p (s : State) (f : ReadRow) : (afterRead s f).p = s.p :=
  State.operand_p (started s f.len f.n) f.operand

/-- Note (1)'s cycle is counted on the state the operand's read leaves (R256). -/
theorem withOperand_eq_afterRead (s : State) (f : ReadRow) (act : State → Byte → State) :
    (s.advance f.len f.n).withOperand f.operand act = act (afterRead s f) (operandOf s f) := by
  have ticked (t : State) (c : Bool) : t.pageTick c = { t with cycles := t.cycles + (if c then 1 else 0) } := by
    cases c <;> rfl
  rw [advance_eq_started, State.withOperand, ticked]
  rfl

theorem exec_of_reads {act : State → Byte → State} {f : ReadRow} (row : Reads act f) (s : State) :
    exec f.instr s = .next (act (afterRead s f) (operandOf s f)) := by
  rw [row.meaning, withOperand_eq_afterRead]

/-! ## Storing a register -/

/-- The row's instruction is encoded as the row says and stores `reg` at its effective address. -/
structure StoresRegister (reg : State → Byte) (f : MemoryRow) : Prop where
  encoded : encodedAs f.instr f.op f.len
  meaning : ∀ s, exec f.instr s = .next ((s.advance f.len f.n).storeAt f.addr (reg s))

theorem storeAt_eq_located (s : State) (f : MemoryRow) (v : Byte) :
    (s.advance f.len f.n).storeAt f.addr v = (located s f).st.busWrite (located s f).ea v := by
  rw [advance_eq_started, State.storeAt, located]

theorem exec_of_storesRegister {reg : State → Byte} {f : MemoryRow} (row : StoresRegister reg f) (s : State) :
    exec f.instr s = .next ((located s f).st.busWrite (located s f).ea (reg s)) := by
  rw [row.meaning, storeAt_eq_located]

end Sys2Proof.Proofs
end

section
/-! PROOFS. Loads, stores and transfers (40_load_store_transfer.md R111 to R122): each row of the opcode table is its
family's shared operation at the row's operand, length and cycles. -/

namespace Sys2Proof.Proofs

open Sys2Proof.Machine Sys2Proof.Claims

/-! ## Loads -/

theorem ldaRows_read (m b : Byte) (w : Word) : ∀ f ∈ ldaRows m b w, Reads State.loadA f := by
  simp only [ldaRows, List.forall_mem_cons]
  refine ⟨?imm, ?abs, ?zp, ?indX, ?indY, ?zpX, ?absX, ?absY, List.forall_mem_nil _⟩ <;> exact ⟨⟨rfl, rfl⟩, fun _ => rfl⟩

theorem ldxRows_read (m b : Byte) (w : Word) : ∀ f ∈ ldxRows m b w, Reads State.loadX f := by
  simp only [ldxRows, List.forall_mem_cons]
  refine ⟨?imm, ?abs, ?zp, ?absY, ?zpY, List.forall_mem_nil _⟩ <;> exact ⟨⟨rfl, rfl⟩, fun _ => rfl⟩

theorem ldyRows_read (m b : Byte) (w : Word) : ∀ f ∈ ldyRows m b w, Reads State.loadY f := by
  simp only [ldyRows, List.forall_mem_cons]
  refine ⟨?imm, ?abs, ?zp, ?zpX, ?absX, List.forall_mem_nil _⟩ <;> exact ⟨⟨rfl, rfl⟩, fun _ => rfl⟩

theorem loadA_eq (t : State) (v : Byte) : t.loadA v = { t with a := v, p := nz t.p v } := by
  rw [← setNZ_eq_nz]
  rfl

theorem loadX_eq (t : State) (v : Byte) : t.loadX v = { t with x := v, p := nz t.p v } := by
  rw [← setNZ_eq_nz]
  rfl

theorem loadY_eq (t : State) (v : Byte) : t.loadY v = { t with y := v, p := nz t.p v } := by
  rw [← setNZ_eq_nz]
  rfl

/-- Settles O18: every row applies its family's load (`ldaRows_read`, `ldxRows_read`, `ldyRows_read`) to its operand, and the
read leaves the flags that N and Z are then set in (`afterRead_p`). -/
theorem loads : Obligations.Loads := by
  intro m b w s
  refine ⟨fun f row => ?lda, fun f row => ?ldx, fun f row => ?ldy⟩
  case lda =>
    have reads := ldaRows_read m b w f row
    exact ⟨reads.encoded, by rw [exec_of_reads reads, loadA_eq, afterRead_p]⟩
  case ldx =>
    have reads := ldxRows_read m b w f row
    exact ⟨reads.encoded, by rw [exec_of_reads reads, loadX_eq, afterRead_p]⟩
  case ldy =>
    have reads := ldyRows_read m b w f row
    exact ⟨reads.encoded, by rw [exec_of_reads reads, loadY_eq, afterRead_p]⟩

/-! ## Stores -/

theorem staRows_store (b : Byte) (w : Word) : ∀ f ∈ staRows b w, StoresRegister State.a f := by
  simp only [staRows, List.forall_mem_cons]
  refine ⟨?abs, ?zp, ?indX, ?indY, ?zpX, ?absX, ?absY, List.forall_mem_nil _⟩ <;> exact ⟨⟨rfl, rfl⟩, fun _ => rfl⟩

theorem stxRows_store (b : Byte) (w : Word) : ∀ f ∈ stxRows b w, StoresRegister State.x f := by
  simp only [stxRows, List.forall_mem_cons]
  refine ⟨?abs, ?zp, ?zpY, List.forall_mem_nil _⟩ <;> exact ⟨⟨rfl, rfl⟩, fun _ => rfl⟩

theorem styRows_store (b : Byte) (w : Word) : ∀ f ∈ styRows b w, StoresRegister State.y f := by
  simp only [styRows, List.forall_mem_cons]
  refine ⟨?abs, ?zp, ?zpX, List.forall_mem_nil _⟩ <;> exact ⟨⟨rfl, rfl⟩, fun _ => rfl⟩

/-- Settles O19: every row stores its family's register (`staRows_store`, `stxRows_store`, `styRows_store`), and a store is the
one write at the effective address (`exec_of_storesRegister`). -/
theorem stores : Obligations.Stores := by
  intro b w s
  refine ⟨fun f row => ?sta, fun f row => ?stx, fun f row => ?sty⟩
  case sta =>
    have store := staRows_store b w f row
    exact ⟨store.encoded, exec_of_storesRegister store s⟩
  case stx =>
    have store := stxRows_store b w f row
    exact ⟨store.encoded, exec_of_storesRegister store s⟩
  case sty =>
    have store := styRows_store b w f row
    exact ⟨store.encoded, exec_of_storesRegister store s⟩

/-! ## Transfers -/

/-- A transfer is the load of its destination with a byte that a register already holds. -/
theorem exec_transfer (s : State) :
    exec .tax s = .next ((s.advance 1 2).loadX s.a) ∧ exec .tay s = .next ((s.advance 1 2).loadY s.a) ∧
    exec .txa s = .next ((s.advance 1 2).loadA s.x) ∧ exec .tya s = .next ((s.advance 1 2).loadA s.y) ∧
    exec .tsx s = .next ((s.advance 1 2).loadX s.sp) ∧ exec .txs s = .next ((s.advance 1 2).setSp s.x) :=
  ⟨rfl, rfl, rfl, rfl, rfl, rfl⟩

/-- Settles O20: five transfers are loads of a register's byte (`exec_transfer`), whose flags `loadA_eq`, `loadX_eq` and
`loadY_eq` give; TXS writes S alone. -/
theorem transfers : Obligations.Transfers := by
  intro s
  obtain ⟨tax, tay, txa, tya, tsx, txs⟩ := exec_transfer s
  rw [advance_eq_started] at tax tay txa tya tsx txs
  exact ⟨⟨⟨rfl, rfl⟩, tax.trans (congrArg _ (loadX_eq _ _))⟩, ⟨⟨rfl, rfl⟩, tay.trans (congrArg _ (loadY_eq _ _))⟩,
    ⟨⟨rfl, rfl⟩, txa.trans (congrArg _ (loadA_eq _ _))⟩, ⟨⟨rfl, rfl⟩, tya.trans (congrArg _ (loadA_eq _ _))⟩,
    ⟨⟨rfl, rfl⟩, tsx.trans (congrArg _ (loadX_eq _ _))⟩, ⟨⟨rfl, rfl⟩, txs⟩⟩

end Sys2Proof.Proofs
end

section
/-! PROOFS. BIT (41_arithmetic_logic.md R140): both rows of the opcode table apply one operation to their operand, and the
bits and the zero test of its flags are the claims' arithmetic. -/

namespace Sys2Proof.Proofs

open Sys2Proof.Machine Sys2Proof.Claims

theorem bit_eq_digit (v : Byte) (k : Nat) : bit v k = digit v k :=
  Nat.testBit_eq_decide_div_mod_eq

theorem beq_zero_eq_decide_toNat (v : Byte) : (v == 0) = decide (v.toNat = 0) := by
  rw [Bool.eq_iff_iff, beq_iff_eq, decide_eq_true_iff, ← BitVec.toNat_inj]
  rfl

theorem afterRead_a (s : State) (f : ReadRow) : (afterRead s f).a = s.a :=
  State.operand_a (started s f.len f.n) f.operand

theorem bitRows_read (b : Byte) (w : Word) : ∀ f ∈ bitRows b w, Reads State.bitTestA f := by
  simp only [bitRows, List.forall_mem_cons]
  refine ⟨?abs, ?zp, List.forall_mem_nil _⟩ <;> exact ⟨⟨rfl, rfl⟩, fun _ => rfl⟩

/-- BIT sets N, V and Z alone: N and V from the operand's own bits, Z from the AND (R140). -/
theorem bitTestA_eq (t : State) (m : Byte) :
    t.bitTestA m =
      { t with p := { t.p with n := digit m 7, v := digit m 6, z := decide ((t.a &&& m).toNat = 0) } } := by
  rw [← bit_eq_digit, ← bit_eq_digit, ← beq_zero_eq_decide_toNat]
  rfl

/-- Settles O30: both rows apply `State.bitTestA` to their operand (`bitRows_read`), whose flags `bitTestA_eq` gives; the read
leaves A and the flags that it starts from (`afterRead_a`, `afterRead_p`). -/
theorem bitTest : Obligations.BitTest := by
  intro b w s f row
  have reads := bitRows_read b w f row
  exact ⟨reads.encoded, by rw [exec_of_reads reads, bitTestA_eq, ← afterRead_a s f, ← afterRead_p s f]⟩

end Sys2Proof.Proofs
end

section
/-! PROOFS. What a read-modify-write instruction leaves (42_shift_rotate.md R150), in the claims' terms, in memory and in the
accumulator. -/

namespace Sys2Proof.Proofs

open Sys2Proof.Machine Sys2Proof.Claims

/-! ## Modifying a byte of memory -/

/-- The row's instruction is encoded as the row says and replaces the byte at its effective address by what `change` makes
of it and the flags. -/
structure Modifies (change : Byte → Flags → ModifyOut) (f : MemoryRow) : Prop where
  encoded : encodedAs f.instr f.op f.len
  meaning : ∀ s, exec f.instr s = .next ((s.advance f.len f.n).modifyAt f.addr change)

/-- Neither forming the address nor the read changes the flags that `change` is given. -/
theorem oldByte_p (s : State) (f : MemoryRow) : (oldByte s f).st.p = s.p := by
  rw [oldByte, State.busRead_p, located, State.locate_p]
  rfl

theorem modifyAt_eq_written (s : State) (f : MemoryRow) (change : Byte → Flags → ModifyOut) :
    (s.advance f.len f.n).modifyAt f.addr change =
      written s f (change (oldByte s f).val s.p).val (change (oldByte s f).val s.p).p := by
  rw [← oldByte_p s f, advance_eq_started]
  rfl

theorem exec_of_modifies {change : Byte → Flags → ModifyOut} {f : MemoryRow} (row : Modifies change f) (s : State) :
    exec f.instr s = .next (written s f (change (oldByte s f).val s.p).val (change (oldByte s f).val s.p).p) := by
  rw [row.meaning, modifyAt_eq_written]

/-! ## Modifying the accumulator -/

theorem modifyA_eq_started (s : State) (len n : Nat) (change : Byte → Flags → ModifyOut) :
    (s.advance len n).modifyA change =
      { started s len n with a := (change s.a s.p).val, p := (change s.a s.p).p } := by
  rw [advance_eq_started]
  rfl

end Sys2Proof.Proofs
end

section
/-! PROOFS. Shifts (42_shift_rotate.md R151, R152): what ASL and LSR make of a byte and the flags is the claims' arithmetic,
and each row of the opcode table applies it at its operand, length and cycles. -/

namespace Sys2Proof.Proofs

open Sys2Proof.Machine Sys2Proof.Claims

/-- A byte keeps the low eight bits of the doubled value: bit 7 leaves it, into C (R151). -/
theorem aslByte_eq (v : Byte) (p : Flags) :
    aslByte v p =
      { val := BitVec.ofNat 8 (v.toNat * 2 % 256)
        p := { nz p (BitVec.ofNat 8 (v.toNat * 2 % 256)) with c := digit v 7 } } := by
  have truncated : BitVec.ofNat 8 (v.toNat * 2 % 256) = BitVec.ofNat 8 (v.toNat * 2) :=
    BitVec.eq_of_toNat_eq (Nat.mod_mod _ _)
  rw [truncated, ← setNZ_eq_nz, ← bit_eq_digit]
  rfl

/-- Bit 0 leaves the byte, into C, and N is 0 since 0 enters bit 7 (R152). -/
theorem lsrByte_eq (v : Byte) (p : Flags) :
    lsrByte v p =
      { val := BitVec.ofNat 8 (v.toNat / 2)
        p := { p with n := false, z := decide ((BitVec.ofNat 8 (v.toNat / 2)).toNat = 0), c := digit v 0 } } := by
  rw [← beq_zero_eq_decide_toNat, ← bit_eq_digit]
  rfl

theorem aslRows_modify (b : Byte) (w : Word) : ∀ f ∈ aslRows b w, Modifies aslByte f := by
  simp only [aslRows, List.forall_mem_cons]
  refine ⟨?abs, ?zp, ?zpX, ?absX, List.forall_mem_nil _⟩ <;> exact ⟨⟨rfl, rfl⟩, fun _ => rfl⟩

theorem lsrRows_modify (b : Byte) (w : Word) : ∀ f ∈ lsrRows b w, Modifies lsrByte f := by
  simp only [lsrRows, List.forall_mem_cons]
  refine ⟨?abs, ?zp, ?zpX, ?absX, List.forall_mem_nil _⟩ <;> exact ⟨⟨rfl, rfl⟩, fun _ => rfl⟩

theorem exec_aslAcc (s : State) : exec .aslAcc s = .next ((s.advance 1 2).modifyA aslByte) := rfl

theorem exec_lsrAcc (s : State) : exec .lsrAcc s = .next ((s.advance 1 2).modifyA lsrByte) := rfl

/-- Settles O33: the rows in memory apply `aslByte` or `lsrByte` to the byte they read (`aslRows_modify`, `lsrRows_modify`),
the accumulator forms to A (`modifyA_eq_started`); what the two make of a byte is `aslByte_eq` and `lsrByte_eq`. -/
theorem shifts : Obligations.Shifts := by
  intro b w s left leftFlags right rightFlags
  refine ⟨⟨⟨rfl, rfl⟩, ?aslAcc⟩, fun f row => ?aslMem, ⟨⟨rfl, rfl⟩, ?lsrAcc⟩, fun f row => ?lsrMem⟩
  case aslAcc => rw [exec_aslAcc, modifyA_eq_started, aslByte_eq]
  case aslMem =>
    have modifies := aslRows_modify b w f row
    exact ⟨modifies.encoded, by rw [exec_of_modifies modifies, aslByte_eq]⟩
  case lsrAcc => rw [exec_lsrAcc, modifyA_eq_started, lsrByte_eq]
  case lsrMem =>
    have modifies := lsrRows_modify b w f row
    exact ⟨modifies.encoded, by rw [exec_of_modifies modifies, lsrByte_eq]⟩

end Sys2Proof.Proofs
end

section
/-! PROOFS. The conditional branches (43_branch_jump.md R160 to R168): the target and the pages that note (2) compares are
the claims' arithmetic, and each row of the opcode table branches on its own condition. -/

namespace Sys2Proof.Proofs

open Sys2Proof.Machine Sys2Proof.Claims

/-- The signed offset moves a word modulo 65536 (R94, D5). -/
theorem toNat_add_sext (w : Word) (off : Byte) :
    (w + sext off).toNat = (((w.toNat : Int) + off.toInt) % 65536).toNat := by
  have sum : w + sext off = BitVec.ofInt 16 (w.toNat + off.toInt) := by
    rw [BitVec.ofInt_add, BitVec.ofInt_natCast, BitVec.ofNat_toNat, BitVec.setWidth_eq]
    rfl
  rw [sum, BitVec.toNat_ofInt]
  rfl

theorem hi8_eq_iff (v w : Word) : hi8 v = hi8 w ↔ v.toNat / 256 = w.toNat / 256 := by
  rw [← BitVec.toNat_inj, hi8_toNat, hi8_toNat]

theorem branch_not_taken (t : State) (off : Byte) : t.branch false off = t := rfl

/-- A taken branch counts one cycle more, or two to another page (R160, R257). -/
theorem branch_taken (t : State) (off : Byte) :
    t.branch true off =
      { t with
        pc := t.pc + sext off
        cycles := t.cycles + (if (t.pc + sext off).toNat / 256 = t.pc.toNat / 256 then 1 else 2) } := by
  simp only [← hi8_eq_iff]
  rfl

/-- Each row is encoded as the table says and branches on its own condition (R100, R161 to R168). -/
theorem exec_of_branchRows (off : Byte) (s : State) :
    ∀ r ∈ branchRows off s.p, encodedAs r.1 r.2.1 2 ∧ exec r.1 s = .next ((started s 2 2).branch r.2.2 off) := by
  simp only [branchRows, List.forall_mem_cons, ← advance_eq_started]
  refine ⟨?bcc, ?bcs, ?beq, ?bmi, ?bne, ?bpl, ?bvc, ?bvs, List.forall_mem_nil _⟩ <;> exact ⟨⟨rfl, rfl⟩, rfl⟩

/-- Settles O36: every row branches on its condition (`exec_of_branchRows`); a branch not taken leaves PC at the next
instruction (`branch_not_taken`), a taken one adds the offset and note (2)'s cycles (`branch_taken`, `toNat_add_sext`). -/
theorem branches : Obligations.Branches := by
  intro off s ⟨i, op, taken⟩ row
  obtain ⟨encoded, meaning⟩ := exec_of_branchRows off s _ row
  refine ⟨encoded, meaning.trans (congrArg _ ?_)⟩
  have nextPc : (started s 2 2).pc.toNat = (s.pc.toNat + 2) % 65536 := rfl
  cases taken with
  | false =>
    rw [branch_not_taken, ← nextPc]
    simp only [Bool.false_eq_true, if_false, BitVec.ofNat_toNat, BitVec.setWidth_eq]
    rfl
  | true =>
    rw [branch_taken, ← nextPc, ← toNat_add_sext]
    simp only [if_true, BitVec.ofNat_toNat, BitVec.setWidth_eq]
    split <;> rfl

end Sys2Proof.Proofs
end

section
/-! PROOFS. The flag instructions and NOP (44_stack_flags_system.md R185 to R192): each writes one flag of the state that an
instruction starts in; CLI and SEI also hold the mask they replace (R208). -/

namespace Sys2Proof.Proofs

open Sys2Proof.Machine Sys2Proof.Claims

theorem setP_eq_started (s : State) (len n : Nat) (p : Flags) :
    (s.advance len n).setP p = { started s len n with p := p } := by
  rw [advance_eq_started]
  rfl

/-- CLI and SEI write I alone, and the mask held is the I they replaced (R187, R191, R208). -/
theorem writeMask_eq_started (s : State) (len n : Nat) (i : Bool) :
    (s.advance len n).writeMask i = { started s len n with p := { s.p with i := i }, priorMask := some s.p.i } := by
  rw [advance_eq_started]
  rfl

/-- Each instruction that writes one of C, D and V does so and nothing else (R185, R186, R188 to R190). -/
theorem exec_flagWrite (s : State) :
    exec .clc s = .next ((s.advance 1 2).setP { s.p with c := false }) ∧
    exec .cld s = .next ((s.advance 1 2).setP { s.p with d := false }) ∧
    exec .clv s = .next ((s.advance 1 2).setP { s.p with v := false }) ∧
    exec .sec s = .next ((s.advance 1 2).setP { s.p with c := true }) ∧
    exec .sed s = .next ((s.advance 1 2).setP { s.p with d := true }) :=
  ⟨rfl, rfl, rfl, rfl, rfl⟩

theorem exec_cli (s : State) : exec .cli s = .next ((s.advance 1 2).writeMask false) := rfl

theorem exec_sei (s : State) : exec .sei s = .next ((s.advance 1 2).writeMask true) := rfl

theorem exec_nop (s : State) : exec .nop s = .next (s.advance 1 2) := rfl

/-- Settles O42: the five writes of C, D and V are `setP` on the started state (`exec_flagWrite`, `setP_eq_started`); CLI and
SEI hold the replaced mask (`writeMask_eq_started`); NOP only starts. -/
theorem flagInstructions : Obligations.FlagInstructions := by
  intro s
  obtain ⟨clc, cld, clv, sec, sed⟩ := exec_flagWrite s
  rw [setP_eq_started] at clc cld clv sec sed
  have cli := exec_cli s
  have sei := exec_sei s
  rw [writeMask_eq_started] at cli sei
  have nop := exec_nop s
  rw [advance_eq_started] at nop
  exact ⟨⟨⟨rfl, rfl⟩, clc⟩, ⟨⟨rfl, rfl⟩, cld⟩, ⟨⟨rfl, rfl⟩, some s.p.i, cli⟩, ⟨⟨rfl, rfl⟩, clv⟩,
    ⟨⟨rfl, rfl⟩, sec⟩, ⟨⟨rfl, rfl⟩, sed⟩, ⟨⟨rfl, rfl⟩, some s.p.i, sei⟩, ⟨⟨rfl, rfl⟩, nop⟩⟩

end Sys2Proof.Proofs
end

section
/-! PROOFS. What can stop a step (30_encoding.md R107, 60_exceptions.md R200, R204; D1, log 23): every instruction has a meaning,
the operand bytes that a defined opcode asks for always decode, and so a step either completes or has fetched an undefined
opcode. -/

namespace Sys2Proof.Proofs

open Sys2Proof.Machine Sys2Proof.Claims

/-- No instruction faults and none is refused: the arm of each constructor of `Instr` answers a next state. -/
theorem exec_answers_next (i : Instr) (s : State) : ∃ t, exec i s = .next t := by
  cases i
  all_goals exact ⟨_, rfl⟩

/-- A defined opcode decodes with any operand bytes, if there are as many as it asks for (R104, R105). -/
theorem decode_of_opcodeLength {op : Byte} {len : Nat} {tail : List Byte} (asks : opcodeLength op = some len)
    (long : len - 1 ≤ tail.length) : ∃ i rest, decode (op :: tail) = .ok (i, rest) := by
  rw [opcodeLength_eq op (tail.getD 0 0) (tail.getD 1 0), Option.map_eq_some_iff] at asks
  obtain ⟨i, row, rfl⟩ := asks
  exact ⟨i, _, (decode_cons_eq_ok_iff op tail i _).2 ⟨row, long, rfl⟩⟩

theorem fetch_of_undefinedOpcode {t : State} (up : (t.busRead t.pc).st.resPin ≠ .low)
    (undefined : opcodeLength (t.busRead t.pc).val = none) : t.fetch = .undefinedOpcode (t.busRead t.pc).val := by
  simp only [State.fetch, if_neg up, undefined]

/-- The three answers of a fetch. Once the opcode is defined nothing can fail: the fetch reads exactly the operand bytes
that the opcode asks for. -/
theorem fetch_cases (t : State) :
    (∃ u, t.fetch = .cutShort u) ∨ (∃ i u, t.fetch = .instr i u) ∨
      (t.fetch = .undefinedOpcode (t.busRead t.pc).val ∧ opcodeLength (t.busRead t.pc).val = none) := by
  by_cases low : (t.busRead t.pc).st.resPin = .low
  · exact .inl ⟨_, fetch_of_resLow low⟩
  · cases asks : opcodeLength (t.busRead t.pc).val with
    | none => exact .inr (.inr ⟨fetch_of_undefinedOpcode low asks, rfl⟩)
    | some len =>
      have long := (State.readBytes_length (t.busRead t.pc).st (t.pc + 1) (len - 1)).ge
      obtain ⟨i, rest, decodes⟩ := decode_of_opcodeLength asks long
      exact .inr (.inl ⟨i, _, fetch_of_decode low asks decodes⟩)

theorem run_of_event {s t : State} (polled : s.poll = .event t) : s.run = .next t := by
  simp only [State.run, polled]

theorem run_of_undefinedOpcode {s t : State} {op : Byte} (polled : s.poll = .execute t)
    (fetched : t.fetch = .undefinedOpcode op) : s.run = .fault (.undefinedOpcode op) := by
  simp only [State.run, polled, fetched]

/-- What a boundary starts completes, or it has fetched an undefined opcode (R107, R204). -/
theorem run_cases (s : State) :
    (∃ t, s.run = .next t) ∨
      ∃ t, s.poll = .execute t ∧ s.run = .fault (.undefinedOpcode (t.busRead t.pc).val) ∧
        opcodeLength (t.busRead t.pc).val = none := by
  cases polled : s.poll with
  | event t => exact .inl ⟨t, run_of_event polled⟩
  | execute t =>
    obtain ⟨u, fetched⟩ | ⟨i, u, fetched⟩ | ⟨fetched, undefined⟩ := fetch_cases t
    · exact .inl ⟨u, run_of_cutShort polled fetched⟩
    · rw [run_of_instr polled fetched]
      exact .inl (exec_answers_next i u)
    · exact .inr ⟨t, rfl, run_of_undefinedOpcode polled fetched, undefined⟩

/-- A step completes, or it has fetched an undefined opcode: the end of a step adds no outcome of its own (R217, R370). -/
theorem step_cases (s : State) :
    (∃ t, step s = .next t) ∨
      ∃ t, s.poll = .execute t ∧ step s = .fault (.undefinedOpcode (t.busRead t.pc).val) ∧
        opcodeLength (t.busRead t.pc).val = none := by
  rw [step_eq_ended]
  obtain ⟨t, ran⟩ | ⟨t, polled, ran, undefined⟩ := run_cases s
  · rw [ran]
    exact .inl ⟨t.endStep s, endStep_eq_ended t s⟩
  · rw [ran]
    exact .inr ⟨t, polled, rfl, undefined⟩

/-- Settles O7, by the two cases of `step_cases`. -/
theorem stepStopsOnlyAtUndefinedOpcode : Obligations.StepStopsOnlyAtUndefinedOpcode := by
  intro s
  obtain ⟨t, next⟩ | ⟨t, polled, fault, undefined⟩ := step_cases s
  · rw [next]
    exact ⟨nofun, nofun⟩
  · rw [fault]
    refine ⟨nofun, fun f same => ?_⟩
    cases same
    exact ⟨t, polled, rfl, undefined⟩

end Sys2Proof.Proofs
end

section
/-! PROOFS. The shape of every instruction's meaning (41_arithmetic_logic.md to 44_stack_flags_system.md): what its mnemonic does
to the state that the instruction starts in, and which bytes it stores to. Whole-machine rules are proved shape by shape. -/

namespace Sys2Proof.Proofs

open Sys2Proof.Machine Sys2Proof.Claims

/-- What a mnemonic does with the operand that its addressing mode reads (R111 to R140). -/
inductive OperandEffect : Mnemonic → (State → Byte → State) → Prop
  | adc : OperandEffect .adc State.addToA
  | sbc : OperandEffect .sbc State.subFromA
  | and : OperandEffect .and State.andWithA
  | ora : OperandEffect .ora State.orWithA
  | eor : OperandEffect .eor State.xorWithA
  | cmp : OperandEffect .cmp State.compareA
  | cpx : OperandEffect .cpx State.compareX
  | cpy : OperandEffect .cpy State.compareY
  | bit : OperandEffect .bit State.bitTestA
  | lda : OperandEffect .lda State.loadA
  | ldx : OperandEffect .ldx State.loadX
  | ldy : OperandEffect .ldy State.loadY

/-- Which register a mnemonic stores (R114 to R116). -/
inductive StoredRegister : Mnemonic → (State → Byte) → Prop
  | sta : StoredRegister .sta State.a
  | stx : StoredRegister .stx State.x
  | sty : StoredRegister .sty State.y

/-- What a mnemonic makes of the byte it changes in place (R141, R142, R151 to R154). -/
inductive ByteEffect : Mnemonic → (Byte → Flags → ModifyOut) → Prop
  | inc : ByteEffect .inc incByte
  | dec : ByteEffect .dec decByte
  | asl : ByteEffect .asl aslByte
  | lsr : ByteEffect .lsr lsrByte
  | rol : ByteEffect .rol rolByte
  | ror : ByteEffect .ror rorByte

/-- The flag a branch looks at, and the value it branches on (R161 to R168). -/
inductive BranchCondition : Mnemonic → (Flags → Bool) → Prop
  | bcc : BranchCondition .bcc (fun p => !p.c)
  | bcs : BranchCondition .bcs Flags.c
  | beq : BranchCondition .beq Flags.z
  | bmi : BranchCondition .bmi Flags.n
  | bne : BranchCondition .bne (fun p => !p.z)
  | bpl : BranchCondition .bpl (fun p => !p.n)
  | bvc : BranchCondition .bvc (fun p => !p.v)
  | bvs : BranchCondition .bvs Flags.v

/-- What a mnemonic that touches no memory does to the registers and flags (R117 to R122, R143 to R146, R185 to R192). -/
inductive RegisterEffect : Mnemonic → (State → State) → Prop
  | tax : RegisterEffect .tax (fun u => u.loadX u.a)
  | tay : RegisterEffect .tay (fun u => u.loadY u.a)
  | txa : RegisterEffect .txa (fun u => u.loadA u.x)
  | tya : RegisterEffect .tya (fun u => u.loadA u.y)
  | tsx : RegisterEffect .tsx (fun u => u.loadX u.sp)
  | txs : RegisterEffect .txs (fun u => u.setSp u.x)
  | inx : RegisterEffect .inx (fun u => u.loadX (u.x + 1))
  | iny : RegisterEffect .iny (fun u => u.loadY (u.y + 1))
  | dex : RegisterEffect .dex (fun u => u.loadX (u.x - 1))
  | dey : RegisterEffect .dey (fun u => u.loadY (u.y - 1))
  | clc : RegisterEffect .clc (fun u => u.setP { u.p with c := false })
  | cld : RegisterEffect .cld (fun u => u.setP { u.p with d := false })
  | clv : RegisterEffect .clv (fun u => u.setP { u.p with v := false })
  | sec : RegisterEffect .sec (fun u => u.setP { u.p with c := true })
  | sed : RegisterEffect .sed (fun u => u.setP { u.p with d := true })
  | cli : RegisterEffect .cli (fun u => u.writeMask false)
  | sei : RegisterEffect .sei (fun u => u.writeMask true)
  | nop : RegisterEffect .nop (fun u => u)

/-- What an instruction does to the state it starts in, and the addresses of the bytes it stores to, as functions of that
state. -/
inductive Means (i : Instr) : (State → State) → (State → List Word) → Prop
  | reads {act} (o : Operand) (h : OperandEffect i.mnemonic act) : Means i (fun u => u.withOperand o act) (fun _ => [])
  | stores {reg} (addr : Address) (h : StoredRegister i.mnemonic reg) :
      Means i (fun u => u.storeAt addr (reg u)) (fun u => [(u.locate addr).ea])
  | modifies {change} (addr : Address) (h : ByteEffect i.mnemonic change) :
      Means i (fun u => u.modifyAt addr change) (fun u => [(u.locate addr).ea])
  | modifiesA {change} (h : ByteEffect i.mnemonic change) (acc : writesA i = true) :
      Means i (fun u => u.modifyA change) (fun _ => [])
  | branches {cond} (off : Byte) (h : BranchCondition i.mnemonic cond) :
      Means i (fun u => u.branch (cond u.p) off) (fun _ => [])
  | registers {act} (h : RegisterEffect i.mnemonic act) : Means i act (fun _ => [])
  | jmpAbs (w : Word) (h : i.mnemonic = .jmp) : Means i (fun u => u.setPc w) (fun _ => [])
  | jmpInd (w : Word) (h : i.mnemonic = .jmp) : Means i (fun u => u.jumpIndirect w) (fun _ => [])
  | jsr (w : Word) (h : i.mnemonic = .jsr) :
      Means i (fun u => u.callSubroutine w) (fun u => [stackAddr u.sp, stackAddr (u.sp - 1)])
  | rts (h : i.mnemonic = .rts) : Means i State.returnFromSubroutine (fun _ => [])
  | pha (h : i.mnemonic = .pha) : Means i (fun u => u.push u.a) (fun u => [stackAddr u.sp])
  | php (h : i.mnemonic = .php) : Means i (fun u => u.push (u.p.image true)) (fun u => [stackAddr u.sp])
  | pla (h : i.mnemonic = .pla) : Means i State.pullA (fun _ => [])
  | plp (h : i.mnemonic = .plp) : Means i State.pullP (fun _ => [])
  | brk (h : i.mnemonic = .brk) :
      Means i (fun u => (u.setPc (u.pc + 1)).interrupt irqVector true)
        (fun u => [stackAddr u.sp, stackAddr (u.sp - 1), stackAddr (u.sp - 2)])
  | rti (h : i.mnemonic = .rti) : Means i State.returnFromInterrupt (fun _ => [])

/-- BRK saves the address two past its own byte (R193). -/
theorem exec_brk (s : State) :
    exec .brk s = .next (((s.advance 1 7).setPc ((s.advance 1 7).pc + 1)).interrupt irqVector true) := by
  have past : (s.advance 1 7).pc + 1 = s.pc + 2 := BitVec.add_assoc s.pc 1 1
  rw [past]
  rfl

/-- The instruction's meaning is `f` on the state it starts in, which stores to the bytes `stored` names. -/
structure Runs (i : Instr) (n : Nat) (f : State → State) (stored : State → List Word) : Prop where
  means : Means i f stored
  exec_eq : ∀ s, exec i s = .next (f (s.advance (instrLength i) n))
  storedAt_eq : ∀ s, storedAt i s = stored (s.advance (instrLength i) n)

/-- Every instruction has one of the shapes: the opcode table, family by family (R100). -/
theorem exists_runs (i : Instr) : ∃ n f stored, Runs i n f stored := by
  cases i
  case adcImm | adcAbs | adcZp | adcIndX | adcIndY | adcZpX | adcAbsX | adcAbsY =>
    exact ⟨_, _, _, .reads _ .adc, fun _ => rfl, fun _ => rfl⟩
  case sbcImm | sbcAbs | sbcZp | sbcIndX | sbcIndY | sbcZpX | sbcAbsX | sbcAbsY =>
    exact ⟨_, _, _, .reads _ .sbc, fun _ => rfl, fun _ => rfl⟩
  case andImm | andAbs | andZp | andIndX | andIndY | andZpX | andAbsX | andAbsY =>
    exact ⟨_, _, _, .reads _ .and, fun _ => rfl, fun _ => rfl⟩
  case oraImm | oraAbs | oraZp | oraIndX | oraIndY | oraZpX | oraAbsX | oraAbsY =>
    exact ⟨_, _, _, .reads _ .ora, fun _ => rfl, fun _ => rfl⟩
  case eorImm | eorAbs | eorZp | eorIndX | eorIndY | eorZpX | eorAbsX | eorAbsY =>
    exact ⟨_, _, _, .reads _ .eor, fun _ => rfl, fun _ => rfl⟩
  case cmpImm | cmpAbs | cmpZp | cmpIndX | cmpIndY | cmpZpX | cmpAbsX | cmpAbsY =>
    exact ⟨_, _, _, .reads _ .cmp, fun _ => rfl, fun _ => rfl⟩
  case ldaImm | ldaAbs | ldaZp | ldaIndX | ldaIndY | ldaZpX | ldaAbsX | ldaAbsY =>
    exact ⟨_, _, _, .reads _ .lda, fun _ => rfl, fun _ => rfl⟩
  case cpxImm | cpxAbs | cpxZp => exact ⟨_, _, _, .reads _ .cpx, fun _ => rfl, fun _ => rfl⟩
  case cpyImm | cpyAbs | cpyZp => exact ⟨_, _, _, .reads _ .cpy, fun _ => rfl, fun _ => rfl⟩
  case bitAbs | bitZp => exact ⟨_, _, _, .reads _ .bit, fun _ => rfl, fun _ => rfl⟩
  case ldxImm | ldxAbs | ldxZp | ldxAbsY | ldxZpY => exact ⟨_, _, _, .reads _ .ldx, fun _ => rfl, fun _ => rfl⟩
  case ldyImm | ldyAbs | ldyZp | ldyZpX | ldyAbsX => exact ⟨_, _, _, .reads _ .ldy, fun _ => rfl, fun _ => rfl⟩
  case staAbs | staZp | staIndX | staIndY | staZpX | staAbsX | staAbsY =>
    exact ⟨_, _, _, .stores _ .sta, fun _ => rfl, fun _ => rfl⟩
  case stxAbs | stxZp | stxZpY => exact ⟨_, _, _, .stores _ .stx, fun _ => rfl, fun _ => rfl⟩
  case styAbs | styZp | styZpX => exact ⟨_, _, _, .stores _ .sty, fun _ => rfl, fun _ => rfl⟩
  case incAbs | incZp | incZpX | incAbsX => exact ⟨_, _, _, .modifies _ .inc, fun _ => rfl, fun _ => rfl⟩
  case decAbs | decZp | decZpX | decAbsX => exact ⟨_, _, _, .modifies _ .dec, fun _ => rfl, fun _ => rfl⟩
  case aslAbs | aslZp | aslZpX | aslAbsX => exact ⟨_, _, _, .modifies _ .asl, fun _ => rfl, fun _ => rfl⟩
  case lsrAbs | lsrZp | lsrZpX | lsrAbsX => exact ⟨_, _, _, .modifies _ .lsr, fun _ => rfl, fun _ => rfl⟩
  case rolAbs | rolZp | rolZpX | rolAbsX => exact ⟨_, _, _, .modifies _ .rol, fun _ => rfl, fun _ => rfl⟩
  case rorAbs | rorZp | rorZpX | rorAbsX => exact ⟨_, _, _, .modifies _ .ror, fun _ => rfl, fun _ => rfl⟩
  case aslAcc => exact ⟨_, _, _, .modifiesA .asl rfl, fun _ => rfl, fun _ => rfl⟩
  case lsrAcc => exact ⟨_, _, _, .modifiesA .lsr rfl, fun _ => rfl, fun _ => rfl⟩
  case rolAcc => exact ⟨_, _, _, .modifiesA .rol rfl, fun _ => rfl, fun _ => rfl⟩
  case rorAcc => exact ⟨_, _, _, .modifiesA .ror rfl, fun _ => rfl, fun _ => rfl⟩
  case bcc => exact ⟨_, _, _, .branches _ .bcc, fun _ => rfl, fun _ => rfl⟩
  case bcs => exact ⟨_, _, _, .branches _ .bcs, fun _ => rfl, fun _ => rfl⟩
  case beq => exact ⟨_, _, _, .branches _ .beq, fun _ => rfl, fun _ => rfl⟩
  case bmi => exact ⟨_, _, _, .branches _ .bmi, fun _ => rfl, fun _ => rfl⟩
  case bne => exact ⟨_, _, _, .branches _ .bne, fun _ => rfl, fun _ => rfl⟩
  case bpl => exact ⟨_, _, _, .branches _ .bpl, fun _ => rfl, fun _ => rfl⟩
  case bvc => exact ⟨_, _, _, .branches _ .bvc, fun _ => rfl, fun _ => rfl⟩
  case bvs => exact ⟨_, _, _, .branches _ .bvs, fun _ => rfl, fun _ => rfl⟩
  case tax => exact ⟨_, _, _, .registers .tax, fun _ => rfl, fun _ => rfl⟩
  case tay => exact ⟨_, _, _, .registers .tay, fun _ => rfl, fun _ => rfl⟩
  case txa => exact ⟨_, _, _, .registers .txa, fun _ => rfl, fun _ => rfl⟩
  case tya => exact ⟨_, _, _, .registers .tya, fun _ => rfl, fun _ => rfl⟩
  case tsx => exact ⟨_, _, _, .registers .tsx, fun _ => rfl, fun _ => rfl⟩
  case txs => exact ⟨_, _, _, .registers .txs, fun _ => rfl, fun _ => rfl⟩
  case inx => exact ⟨_, _, _, .registers .inx, fun _ => rfl, fun _ => rfl⟩
  case iny => exact ⟨_, _, _, .registers .iny, fun _ => rfl, fun _ => rfl⟩
  case dex => exact ⟨_, _, _, .registers .dex, fun _ => rfl, fun _ => rfl⟩
  case dey => exact ⟨_, _, _, .registers .dey, fun _ => rfl, fun _ => rfl⟩
  case clc => exact ⟨_, _, _, .registers .clc, fun _ => rfl, fun _ => rfl⟩
  case cld => exact ⟨_, _, _, .registers .cld, fun _ => rfl, fun _ => rfl⟩
  case clv => exact ⟨_, _, _, .registers .clv, fun _ => rfl, fun _ => rfl⟩
  case sec => exact ⟨_, _, _, .registers .sec, fun _ => rfl, fun _ => rfl⟩
  case sed => exact ⟨_, _, _, .registers .sed, fun _ => rfl, fun _ => rfl⟩
  case cli => exact ⟨_, _, _, .registers .cli, fun _ => rfl, fun _ => rfl⟩
  case sei => exact ⟨_, _, _, .registers .sei, fun _ => rfl, fun _ => rfl⟩
  case nop => exact ⟨_, _, _, .registers .nop, fun _ => rfl, fun _ => rfl⟩
  case jmpAbs => exact ⟨_, _, _, .jmpAbs _ rfl, fun _ => rfl, fun _ => rfl⟩
  case jmpInd => exact ⟨_, _, _, .jmpInd _ rfl, fun _ => rfl, fun _ => rfl⟩
  case jsr => exact ⟨_, _, _, .jsr _ rfl, fun _ => rfl, fun _ => rfl⟩
  case rts => exact ⟨_, _, _, .rts rfl, fun _ => rfl, fun _ => rfl⟩
  case pha => exact ⟨_, _, _, .pha rfl, fun _ => rfl, fun _ => rfl⟩
  case php => exact ⟨_, _, _, .php rfl, fun _ => rfl, fun _ => rfl⟩
  case pla => exact ⟨_, _, _, .pla rfl, fun _ => rfl, fun _ => rfl⟩
  case plp => exact ⟨_, _, _, .plp rfl, fun _ => rfl, fun _ => rfl⟩
  case brk => exact ⟨_, _, _, .brk rfl, exec_brk, fun _ => rfl⟩
  case rti => exact ⟨_, _, _, .rti rfl, fun _ => rfl, fun _ => rfl⟩

end Sys2Proof.Proofs
end

section
/-! PROOFS. What no instruction changes (10_state.md R48): each register and flag has its writers, and every shape of
meaning is made of register writes that the table lists and of bus activity, which changes no register. -/

namespace Sys2Proof.Proofs

open Sys2Proof.Machine Sys2Proof.Claims

/-! ## The table of rule R48, as a relation that composes -/

/-- From `s` to `t` an instruction changes no flag that the table does not list for it. -/
structure FlagsListed (i : Instr) (p q : Flags) : Prop where
  nz : writesNZ i = false → q.n = p.n ∧ q.z = p.z
  c : writesC i = false → q.c = p.c
  v : i.mnemonic ∉ [Mnemonic.adc, .sbc, .bit, .clv, .plp, .rti] → q.v = p.v
  d : i.mnemonic ∉ [Mnemonic.cld, .sed, .plp, .rti] → q.d = p.d
  mask : i.mnemonic ∉ [Mnemonic.cli, .sei, .plp, .brk, .rti] → q.i = p.i

/-- No instruction changes the pending NMI, the schedule of inputs or the configuration. -/
structure Untouched (s t : State) : Prop where
  nmiPending : t.nmiPending = s.nmiPending
  inputs : t.inputs = s.inputs
  cfg : t.cfg = s.cfg

/-- From `s` to `t` an instruction changes no register and no flag that the table does not list for it. -/
structure Listed (i : Instr) (s t : State) : Prop where
  a : writesA i = false → t.a = s.a
  x : i.mnemonic ∉ [Mnemonic.ldx, .tax, .tsx, .inx, .dex] → t.x = s.x
  y : i.mnemonic ∉ [Mnemonic.ldy, .tay, .iny, .dey] → t.y = s.y
  sp : i.mnemonic ∉ [Mnemonic.txs, .pha, .php, .pla, .plp, .jsr, .rts, .brk, .rti] → t.sp = s.sp
  flags : FlagsListed i s.p t.p
  pc : Claims.transfers i = false → t.pc = s.pc
  untouched : Untouched s t

section

variable {i : Instr} {s t u : State}

theorem FlagsListed.refl (p : Flags) : FlagsListed i p p :=
  ⟨fun _ => ⟨rfl, rfl⟩, fun _ => rfl, fun _ => rfl, fun _ => rfl, fun _ => rfl⟩

theorem FlagsListed.trans {p q r : Flags} (h : FlagsListed i p q) (k : FlagsListed i q r) : FlagsListed i p r where
  nz no := ⟨(k.nz no).1.trans (h.nz no).1, (k.nz no).2.trans (h.nz no).2⟩
  c no := (k.c no).trans (h.c no)
  v no := (k.v no).trans (h.v no)
  d no := (k.d no).trans (h.d no)
  mask no := (k.mask no).trans (h.mask no)

theorem Untouched.trans (h : Untouched s t) (k : Untouched t u) : Untouched s u :=
  ⟨k.nmiPending.trans h.nmiPending, k.inputs.trans h.inputs, k.cfg.trans h.cfg⟩

theorem Listed.trans (h : Listed i s t) (k : Listed i t u) : Listed i s u where
  a no := (k.a no).trans (h.a no)
  x no := (k.x no).trans (h.x no)
  y no := (k.y no).trans (h.y no)
  sp no := (k.sp no).trans (h.sp no)
  flags := h.flags.trans k.flags
  pc no := (k.pc no).trans (h.pc no)
  untouched := h.untouched.trans k.untouched

/-! ## Bus activity and single writes -/

theorem Listed.of_busOnly (h : BusOnly s t) : Listed i s t := by
  rw [h]
  exact ⟨fun _ => rfl, fun _ => rfl, fun _ => rfl, fun _ => rfl, .refl _, fun _ => rfl, ⟨rfl, rfl, rfl⟩⟩

theorem Listed.refl (s : State) : Listed i s s := .of_busOnly rfl

theorem Listed.setA (s : State) (v : Byte) (w : writesA i = true) : Listed i s (s.setA v) :=
  { Listed.refl s with a := fun no => absurd (w.symm.trans no) nofun, untouched := ⟨rfl, rfl, rfl⟩ }

theorem Listed.setX (s : State) (v : Byte) (w : i.mnemonic ∈ [Mnemonic.ldx, .tax, .tsx, .inx, .dex]) :
    Listed i s (s.setX v) :=
  { Listed.refl s with x := fun no => absurd w no, untouched := ⟨rfl, rfl, rfl⟩ }

theorem Listed.setY (s : State) (v : Byte) (w : i.mnemonic ∈ [Mnemonic.ldy, .tay, .iny, .dey]) :
    Listed i s (s.setY v) :=
  { Listed.refl s with y := fun no => absurd w no, untouched := ⟨rfl, rfl, rfl⟩ }

theorem Listed.setSp (s : State) (v : Byte)
    (w : i.mnemonic ∈ [Mnemonic.txs, .pha, .php, .pla, .plp, .jsr, .rts, .brk, .rti]) : Listed i s (s.setSp v) :=
  { Listed.refl s with sp := fun no => absurd w no, untouched := ⟨rfl, rfl, rfl⟩ }

theorem Listed.setPc (s : State) (v : Word) (w : Claims.transfers i = true) : Listed i s (s.setPc v) :=
  { Listed.refl s with pc := fun no => absurd (w.symm.trans no) nofun, untouched := ⟨rfl, rfl, rfl⟩ }

theorem Listed.setP (s : State) (p : Flags) (w : FlagsListed i s.p p) : Listed i s (s.setP p) :=
  { Listed.refl s with flags := w, untouched := ⟨rfl, rfl, rfl⟩ }

theorem Listed.tick (s : State) (n : Nat) : Listed i s (s.tick n) :=
  { Listed.refl s with untouched := ⟨rfl, rfl, rfl⟩ }

theorem Listed.setDraws (s : State) (n : Nat) : Listed i s (s.setDraws n) :=
  { Listed.refl s with untouched := ⟨rfl, rfl, rfl⟩ }

theorem Listed.setPriorMask (s : State) (m : Option Bool) : Listed i s (s.setPriorMask m) :=
  { Listed.refl s with untouched := ⟨rfl, rfl, rfl⟩ }

theorem Listed.pushOnly (h : PushOnly s t)
    (w : i.mnemonic ∈ [Mnemonic.txs, .pha, .php, .pla, .plp, .jsr, .rts, .brk, .rti]) : Listed i s t := by
  rw [h]
  exact (Listed.setSp s t.sp w).trans (.of_busOnly rfl)

/-! ## Flag writes -/

/-- An instruction listed for both N and Z may set them. -/
theorem FlagsListed.writeNZ (p : Flags) (n z : Bool) (w : writesNZ i = true) : FlagsListed i p { p with n := n, z := z } :=
  { FlagsListed.refl p with nz := fun no => absurd (w.symm.trans no) nofun }

theorem FlagsListed.writeC (p : Flags) (c : Bool) (w : writesC i = true) : FlagsListed i p { p with c := c } :=
  { FlagsListed.refl p with c := fun no => absurd (w.symm.trans no) nofun }

theorem FlagsListed.writeV (p : Flags) (v : Bool) (w : i.mnemonic ∈ [Mnemonic.adc, .sbc, .bit, .clv, .plp, .rti]) :
    FlagsListed i p { p with v := v } :=
  { FlagsListed.refl p with v := fun no => absurd w no }

theorem FlagsListed.writeD (p : Flags) (d : Bool) (w : i.mnemonic ∈ [Mnemonic.cld, .sed, .plp, .rti]) :
    FlagsListed i p { p with d := d } :=
  { FlagsListed.refl p with d := fun no => absurd w no }

theorem FlagsListed.writeMask (p : Flags) (m : Bool) (w : i.mnemonic ∈ [Mnemonic.cli, .sei, .plp, .brk, .rti]) :
    FlagsListed i p { p with i := m } :=
  { FlagsListed.refl p with mask := fun no => absurd w no }

theorem FlagsListed.writeNZC (p : Flags) (n z c : Bool) (nz : writesNZ i = true) (w : writesC i = true) :
    FlagsListed i p { p with n := n, z := z, c := c } :=
  (writeNZ p n z nz).trans (writeC _ c w)

/-- PLP and RTI are listed for every flag. -/
theorem FlagsListed.of_pull (p q : Flags) (h : i.mnemonic ∈ [Mnemonic.plp, .rti]) : FlagsListed i p q := by
  have among {l : List Mnemonic} (sub : [Mnemonic.plp, .rti] ⊆ l) : i.mnemonic ∈ l := sub h
  have nzc : FlagsListed i p { p with n := q.n, z := q.z, c := q.c } :=
    writeNZC p q.n q.z q.c (decide_eq_true (among (by decide))) (decide_eq_true (among (by decide)))
  have v := nzc.trans (writeV _ q.v (among (by decide)))
  have d := v.trans (writeD _ q.d (among (by decide)))
  exact d.trans (writeMask _ q.i (among (by decide)))

/-! ## The effects of the mnemonics -/

theorem Listed.loadA (s : State) (v : Byte) (a : writesA i = true) (nz : writesNZ i = true) : Listed i s (s.loadA v) :=
  (Listed.setA s v a).trans (.setP _ _ (.writeNZ _ _ _ nz))

theorem Listed.loadX (s : State) (v : Byte) (x : i.mnemonic ∈ [Mnemonic.ldx, .tax, .tsx, .inx, .dex])
    (nz : writesNZ i = true) : Listed i s (s.loadX v) :=
  (Listed.setX s v x).trans (.setP _ _ (.writeNZ _ _ _ nz))

theorem Listed.loadY (s : State) (v : Byte) (y : i.mnemonic ∈ [Mnemonic.ldy, .tay, .iny, .dey])
    (nz : writesNZ i = true) : Listed i s (s.loadY v) :=
  (Listed.setY s v y).trans (.setP _ _ (.writeNZ _ _ _ nz))

/-- ADC and SBC are listed for A and for N, V, Z and C. -/
theorem Listed.putSum (s : State) (o : SumOut) (h : i.mnemonic ∈ [Mnemonic.adc, .sbc]) : Listed i s (s.putSum o) := by
  have among {l : List Mnemonic} (sub : [Mnemonic.adc, .sbc] ⊆ l) : i.mnemonic ∈ l := sub h
  have a : writesA i = true := by rw [writesA, decide_eq_true (among (by decide)), Bool.true_or]
  have nzc : FlagsListed i s.p { s.p with n := o.n, z := o.z, c := o.c } :=
    .writeNZC _ _ _ _ (decide_eq_true (among (by decide))) (decide_eq_true (among (by decide)))
  exact (Listed.setA s o.val a).trans (.setP _ _ (nzc.trans (.writeV _ o.v (among (by decide)))))

theorem Listed.compare (s : State) (r m : Byte) (nz : writesNZ i = true) (c : writesC i = true) :
    Listed i s (s.setP (s.p.compare r m)) :=
  .setP _ _ (.writeNZC _ _ _ _ nz c)

theorem OperandEffect.listed {act : State → Byte → State} (h : OperandEffect i.mnemonic act) (s : State) (v : Byte) :
    Listed i s (act s v) := by
  generalize name : i.mnemonic = m at h
  cases h
  case adc =>
    obtain ⟨n, o, sum⟩ := State.addToA_spec s v
    rw [sum]
    exact (Listed.setDraws s n).trans (.putSum _ o (by simp [name]))
  case sbc =>
    obtain ⟨n, o, diff⟩ := State.subFromA_spec s v
    rw [diff]
    exact (Listed.setDraws s n).trans (.putSum _ o (by simp [name]))
  case and | ora | eor | lda => exact Listed.loadA s _ (by simp [writesA, name]) (by simp [writesNZ, name])
  case ldx => exact Listed.loadX s _ (by simp [name]) (by simp [writesNZ, name])
  case ldy => exact Listed.loadY s _ (by simp [name]) (by simp [writesNZ, name])
  case cmp | cpx | cpy => exact Listed.compare s _ _ (by simp [writesNZ, name]) (by simp [writesC, name])
  case bit =>
    have nz := FlagsListed.writeNZ (i := i) s.p (Machine.bit v 7) ((s.a &&& v) == 0) (by simp [writesNZ, name])
    exact .setP _ _ (nz.trans (.writeV _ (Machine.bit v 6) (by simp [name])))

/-- What is changed in place sets N and Z, and a shift or rotate C. -/
theorem ByteEffect.listed {change : Byte → Flags → ModifyOut} (h : ByteEffect i.mnemonic change) (v : Byte) (p : Flags) :
    FlagsListed i p (change v p).p := by
  generalize name : i.mnemonic = m at h
  cases h
  case inc | dec => exact .writeNZ p _ _ (by simp [writesNZ, name])
  case asl | lsr | rol | ror => exact .writeNZC p _ _ _ (by simp [writesNZ, name]) (by simp [writesC, name])

theorem BranchCondition.transfers {cond : Flags → Bool} (h : BranchCondition i.mnemonic cond) :
    Claims.transfers i = true := by
  generalize name : i.mnemonic = m at h
  cases h <;> simp [Claims.transfers, name]

theorem RegisterEffect.listed {act : State → State} (h : RegisterEffect i.mnemonic act) (s : State) :
    Listed i s (act s) := by
  generalize name : i.mnemonic = m at h
  cases h
  case tax | tsx | inx | dex => exact Listed.loadX s _ (by simp [name]) (by simp [writesNZ, name])
  case tay | iny | dey => exact Listed.loadY s _ (by simp [name]) (by simp [writesNZ, name])
  case txa | tya => exact Listed.loadA s _ (by simp [writesA, name]) (by simp [writesNZ, name])
  case txs => exact Listed.setSp s _ (by simp [name])
  case clc | sec => exact .setP s _ (.writeC _ _ (by simp [writesC, name]))
  case cld | sed => exact .setP s _ (.writeD _ _ (by simp [name]))
  case clv => exact .setP s _ (.writeV _ _ (by simp [name]))
  case cli | sei => exact (Listed.setP s _ (.writeMask _ _ (by simp [name]))).trans (.setPriorMask _ _)
  case nop => exact .refl s

/-! ## The shapes of meaning -/

theorem Listed.pull (s : State) (w : i.mnemonic ∈ [Mnemonic.txs, .pha, .php, .pla, .plp, .jsr, .rts, .brk, .rti]) :
    Listed i s s.pull.st :=
  (Listed.setSp s (s.sp + 1) w).trans (.of_busOnly (State.pull_busOnly s))

theorem Listed.withOperand {act : State → Byte → State} (s : State) (o : Operand) (h : OperandEffect i.mnemonic act) :
    Listed i s (s.withOperand o act) := by
  obtain ⟨u, bus, -, -, eq⟩ := State.withOperand_spec s o act
  rw [eq]
  exact (Listed.of_busOnly bus).trans (h.listed u _)

theorem Listed.storeAt (s : State) (addr : Address) (v : Byte) : Listed i s (s.storeAt addr v) := by
  obtain ⟨u, bus, -, eq⟩ := State.storeAt_spec s addr v
  rw [eq]
  exact (Listed.of_busOnly bus).trans (.of_busOnly (State.busWrite_busOnly u _ v))

theorem Listed.modifyAt {change : Byte → Flags → ModifyOut} (s : State) (addr : Address)
    (h : ByteEffect i.mnemonic change) : Listed i s (s.modifyAt addr change) := by
  obtain ⟨u, v, bus, -, eq⟩ := State.modifyAt_spec s addr change
  have stored := (Listed.of_busOnly (i := i) bus).trans
    (.of_busOnly (State.busWrite_busOnly u (s.locate addr).ea (change v s.p).val))
  have flags : FlagsListed i (u.busWrite (s.locate addr).ea (change v s.p).val).p (change v s.p).p := by
    rw [State.busWrite_p, bus]
    exact h.listed v s.p
  rw [eq]
  exact stored.trans (.setP _ _ flags)

theorem Listed.branch (s : State) (taken : Bool) (off : Byte) (h : Claims.transfers i = true) :
    Listed i s (s.branch taken off) := by
  obtain ⟨w, n, eq⟩ := State.branch_spec s taken off
  rw [eq]
  exact (Listed.setPc s w h).trans (.tick _ n)

theorem Listed.jumpIndirect (s : State) (w : Word) (h : Claims.transfers i = true) : Listed i s (s.jumpIndirect w) := by
  obtain ⟨u, bus, -, eq⟩ := State.jumpIndirect_spec s w
  rw [eq]
  exact (Listed.of_busOnly bus).trans (.setPc u _ h)

theorem Listed.callSubroutine (s : State) (w : Word) (h : i.mnemonic = .jsr) : Listed i s (s.callSubroutine w) := by
  obtain ⟨u, pushed, -, eq⟩ := State.callSubroutine_spec s w
  rw [eq]
  exact (Listed.pushOnly pushed (by simp [h])).trans (.setPc u w (by simp [Claims.transfers, h]))

theorem Listed.returnFromSubroutine (s : State) (h : i.mnemonic = .rts) : Listed i s s.returnFromSubroutine := by
  obtain ⟨u, bus, -, eq⟩ := State.returnFromSubroutine_spec s
  rw [eq]
  exact ((Listed.setSp s _ (by simp [h])).trans (.of_busOnly bus)).trans (.setPc u _ (by simp [Claims.transfers, h]))

theorem Listed.returnFromInterrupt (s : State) (h : i.mnemonic = .rti) : Listed i s s.returnFromInterrupt := by
  obtain ⟨u, bus, -, eq⟩ := State.returnFromInterrupt_spec s
  have pulled := (Listed.setSp s (s.sp + 1 + 1 + 1) (by simp [h])).trans
    (.setP (i := i) _ (Flags.ofByte s.pull.val) (.of_pull _ _ (by simp [h])))
  rw [eq]
  exact (pulled.trans (.of_busOnly bus)).trans (.setPc u _ (by simp [Claims.transfers, h]))

theorem Listed.interrupt (s : State) (vector : Word) (b : Bool) (h : i.mnemonic = .brk) :
    Listed i s (s.interrupt vector b) := by
  obtain ⟨u, v, pushed, -, loaded, -, -, -, eq⟩ := State.interrupt_spec s vector b
  have masked : FlagsListed i u.p { s.p with i := true } := by
    rw [pushed]
    exact .writeMask _ _ (by simp [h])
  rw [eq]
  exact ((((Listed.pushOnly pushed (by simp [h])).trans (.setP _ _ masked)).trans (.of_busOnly loaded)).trans
    (.setPc _ _ (by simp [Claims.transfers, h]))).trans (.setPriorMask _ _)

/-- No shape of meaning changes a register or flag that the table does not list. -/
theorem Means.listed {f : State → State} {stored : State → List Word} (h : Means i f stored) (s : State) :
    Listed i s (f s) := by
  cases h with
  | reads o h => exact .withOperand s o h
  | stores addr h => exact .storeAt s addr _
  | modifies addr h => exact .modifyAt s addr h
  | modifiesA h acc => exact (Listed.setA s _ acc).trans (.setP _ _ (h.listed s.a s.p))
  | branches off h => exact .branch s _ off h.transfers
  | registers h => exact h.listed s
  | jmpAbs w h => exact .setPc s w (by simp [Claims.transfers, h])
  | jmpInd w h => exact .jumpIndirect s w (by simp [Claims.transfers, h])
  | jsr w h => exact .callSubroutine s w h
  | rts h => exact .returnFromSubroutine s h
  | pha h => exact .pushOnly (State.push_pushOnly s s.a) (by simp [h])
  | php h => exact .pushOnly (State.push_pushOnly s _) (by simp [h])
  | pla h => exact (Listed.pull s (by simp [h])).trans (.loadA _ _ (by simp [writesA, h]) (by simp [writesNZ, h]))
  | plp h => exact ((Listed.pull s (by simp [h])).trans (.setP _ _ (.of_pull _ _ (by simp [h])))).trans (.setPriorMask _ _)
  | brk h => exact (Listed.setPc s _ (by simp [Claims.transfers, h])).trans (.interrupt _ _ _ h)
  | rti h => exact .returnFromInterrupt s h

end

/-! ## The obligations -/

/-- Settles O8: every instruction has an arm with a meaning. -/
theorem everyInstructionCompletes : Obligations.EveryInstructionCompletes :=
  exec_answers_next

/-- PC has moved past the instruction's bytes, modulo 65536 (R82). -/
theorem advance_pc (s : State) (len n : Nat) :
    (s.advance len n).pc = BitVec.ofNat 16 ((s.pc.toNat + len) % 65536) := by
  rw [advance_eq_started]
  exact BitVec.eq_of_toNat_eq (by simp [started])

/-- Settles O57: the start of an instruction moves PC alone, and `Means.listed` speaks of the rest. -/
theorem onlyListedRegistersChange : Obligations.OnlyListedRegistersChange := by
  intro i s
  obtain ⟨n, f, stored, means, exec_eq, -⟩ := exists_runs i
  have listed := means.listed (s.advance (instrLength i) n)
  exact ⟨_, exec_eq s, listed.a, listed.x, listed.y, listed.sp, listed.flags.nz, listed.flags.c, listed.flags.v,
    listed.flags.d, listed.flags.mask, fun stays => (listed.pc stays).trans (advance_pc s _ n),
    listed.untouched.nmiPending, listed.untouched.inputs, listed.untouched.cfg⟩

end Sys2Proof.Proofs
end

section
/-! PROOFS. The mask the next boundary sees (60_exceptions.md R208, log 11): CLI, SEI and PLP alone leave the mask they
replaced, and the start of every instruction has forgotten the one before. -/

namespace Sys2Proof.Proofs

open Sys2Proof.Machine Sys2Proof.Claims

/-- The instructions whose change of P.I the interrupt logic can see one boundary late (R208). -/
abbrev DelaysMask (m : Mnemonic) : Prop := m ∈ [Mnemonic.cli, .sei, .plp]

/-- From `s` to `t` the mask held is the one the instruction replaced, if it is one of the three, and else as it was. -/
abbrev HoldsMask (i : Instr) (s t : State) : Prop :=
  t.priorMask = if DelaysMask i.mnemonic then some s.p.i else s.priorMask

section

variable {i : Instr}

theorem HoldsMask.of_kept {s t : State} (other : ¬ DelaysMask i.mnemonic) (kept : t.priorMask = s.priorMask) :
    HoldsMask i s t := by
  rw [HoldsMask, if_neg other, kept]

theorem HoldsMask.of_held {s t : State} (one : DelaysMask i.mnemonic) (held : t.priorMask = some s.p.i) :
    HoldsMask i s t := by
  rw [HoldsMask, if_pos one, held]

theorem OperandEffect.keepsMask {m : Mnemonic} {act : State → Byte → State} (h : OperandEffect m act) :
    ¬ DelaysMask m ∧ ∀ s v, (act s v).priorMask = s.priorMask := by
  cases h
  case adc =>
    refine ⟨by decide, fun s v => ?_⟩
    obtain ⟨n, o, sum⟩ := State.addToA_spec s v
    rw [sum]
    rfl
  case sbc =>
    refine ⟨by decide, fun s v => ?_⟩
    obtain ⟨n, o, diff⟩ := State.subFromA_spec s v
    rw [diff]
    rfl
  all_goals exact ⟨by decide, fun _ _ => rfl⟩

theorem RegisterEffect.holdsMask {act : State → State} (h : RegisterEffect i.mnemonic act) (s : State) :
    HoldsMask i s (act s) := by
  generalize name : i.mnemonic = m at h
  cases h
  case cli | sei => exact .of_held (by rw [name]; decide) rfl
  all_goals exact .of_kept (by rw [name]; decide) rfl

theorem withOperand_priorMask (s : State) (o : Operand) {act : State → Byte → State}
    (keeps : ∀ s v, (act s v).priorMask = s.priorMask) : (s.withOperand o act).priorMask = s.priorMask := by
  rw [State.withOperand, keeps, State.pageTick_priorMask, State.operand_priorMask]

theorem branch_priorMask (s : State) (taken : Bool) (off : Byte) : (s.branch taken off).priorMask = s.priorMask := by
  obtain ⟨w, n, eq⟩ := State.branch_spec s taken off
  rw [eq]
  rfl

theorem StoredRegister.not_delays {m : Mnemonic} {reg : State → Byte} (h : StoredRegister m reg) : ¬ DelaysMask m := by
  cases h <;> decide

theorem ByteEffect.not_delays {m : Mnemonic} {change : Byte → Flags → ModifyOut} (h : ByteEffect m change) :
    ¬ DelaysMask m := by
  cases h <;> decide

theorem BranchCondition.not_delays {m : Mnemonic} {cond : Flags → Bool} (h : BranchCondition m cond) :
    ¬ DelaysMask m := by
  cases h <;> decide

/-- Every shape of meaning holds the mask as R208 says. An interrupt sequence, which BRK is, forgets it. -/
theorem Means.holdsMask {f : State → State} {stored : State → List Word} (h : Means i f stored) (s : State)
    (forgotten : s.priorMask = none) : HoldsMask i s (f s) := by
  have no {m : Mnemonic} (name : i.mnemonic = m) (other : ¬ DelaysMask m) : ¬ DelaysMask i.mnemonic := name ▸ other
  cases h with
  | reads o h => exact .of_kept h.keepsMask.1 (withOperand_priorMask s o h.keepsMask.2)
  | stores addr h => exact .of_kept h.not_delays (by simp [State.storeAt])
  | modifies addr h => exact .of_kept h.not_delays (by simp [State.modifyAt])
  | modifiesA h acc => exact .of_kept h.not_delays rfl
  | branches off h => exact .of_kept h.not_delays (branch_priorMask s _ off)
  | registers h => exact h.holdsMask s
  | jmpAbs w h => exact .of_kept (no h (by decide)) rfl
  | jmpInd w h => exact .of_kept (no h (by decide)) (by simp [State.jumpIndirect])
  | jsr w h => exact .of_kept (no h (by decide)) (by simp [State.callSubroutine])
  | rts h => exact .of_kept (no h (by decide)) (by simp [State.returnFromSubroutine])
  | pha h => exact .of_kept (no h (by decide)) (State.push_priorMask s _)
  | php h => exact .of_kept (no h (by decide)) (State.push_priorMask s _)
  | pla h => exact .of_kept (no h (by decide)) (State.pull_priorMask s)
  | plp h => exact .of_held (by rw [h]; decide) rfl
  | brk h => exact .of_kept (no h (by decide)) forgotten.symm
  | rti h => exact .of_kept (no h (by decide)) (by simp [State.returnFromInterrupt])

end

/-- Settles O52: at its start an instruction has forgotten the mask held before, and `Means.holdsMask` says which one it
leaves; the configuration, which says whether that mask is looked at, stays (`Means.listed`). -/
theorem maskSampling : Obligations.MaskSampling := by
  intro i s
  obtain ⟨n, f, stored, means, exec_eq, -⟩ := exists_runs i
  have cfg : (f (s.advance (instrLength i) n)).cfg = s.cfg := (means.listed _).untouched.cfg
  have held : (f (s.advance (instrLength i) n)).priorMask = if DelaysMask i.mnemonic then some s.p.i else none :=
    means.holdsMask (s.advance (instrLength i) n) rfl
  refine ⟨_, exec_eq s, ?_⟩
  rw [State.maskSeen, cfg, held]
  cases s.cfg.intISample with
  | boundary => simp
  | delayed => by_cases one : DelaysMask i.mnemonic <;> simp [one]

end Sys2Proof.Proofs
end

section
/-! PROOFS. What a step can do (60_exceptions.md R204, R207, R217): the polling's answers in the claims' terms, the one list of
what a boundary starts, and from it what every step keeps. -/

namespace Sys2Proof.Proofs

open Sys2Proof.Machine Sys2Proof.Claims

/-! ## The answers of the polling -/

theorem poll_of_reset {s : State} {draw : ResetDraw} (reset : (due s).res = some draw) :
    s.poll = .event ((arrived s).resetSequence draw) := by
  simp only [State.poll, currentInputs_eq_due, reset, resPinOf_eq_resDuring]
  rfl

/-- Without a reset a pending NMI comes before an IRQ, and an IRQ before the instruction (R204, D14). -/
theorem poll_of_noReset {s : State} (noReset : (due s).res = none) :
    s.poll =
      if (sampled s).nmiPending then .event ((((sampled s).setNmiPending false).tick 7).interrupt nmiVector false)
      else if irqTaken s then .event (((sampled s).tick 7).interrupt irqVector false)
      else .execute (sampled s) := by
  rw [irqTaken_eq]
  simp only [State.poll, currentInputs_eq_due, noReset, sampleEdges_eq_sampled]

/-- What a boundary starts (R204): the answer of `State.run` and where it comes from. -/
inductive Starts (s : State) : State → Prop
  | reset {draw} (due : (due s).res = some draw) : Starts s ((arrived s).resetSequence draw)
  | nmi (noReset : (due s).res = none) (pending : (sampled s).nmiPending = true) :
      Starts s ((((sampled s).setNmiPending false).tick 7).interrupt nmiVector false)
  | irq (noReset : (due s).res = none) (noNmi : (sampled s).nmiPending = false) :
      Starts s (((sampled s).tick 7).interrupt irqVector false)
  | cutShort {t} (noReset : (due s).res = none) (noNmi : (sampled s).nmiPending = false)
      (fetched : (sampled s).fetch = .cutShort t) : Starts s t
  | instr {i u t} (noReset : (due s).res = none) (noNmi : (sampled s).nmiPending = false)
      (fetched : (sampled s).fetch = .instr i u) (meaning : exec i u = .next t) : Starts s t

/-- The one list of what a boundary can start. -/
theorem starts_of_run {s t : State} (ran : s.run = .next t) : Starts s t := by
  cases reset : (due s).res with
  | some draw =>
    rw [run_of_event (poll_of_reset reset)] at ran
    cases ran
    exact .reset reset
  | none =>
    have polled := poll_of_noReset reset
    by_cases pending : (sampled s).nmiPending = true
    · rw [if_pos pending] at polled
      rw [run_of_event polled] at ran
      cases ran
      exact .nmi reset pending
    · rw [if_neg pending] at polled
      have noNmi := Bool.eq_false_of_not_eq_true pending
      by_cases taken : irqTaken s = true
      · rw [if_pos taken] at polled
        rw [run_of_event polled] at ran
        cases ran
        exact .irq reset noNmi
      · rw [if_neg taken] at polled
        cases fetched : (sampled s).fetch with
        | undefinedOpcode op =>
          rw [run_of_undefinedOpcode polled fetched] at ran
          cases ran
        | cutShort u =>
          rw [run_of_cutShort polled fetched] at ran
          cases ran
          exact .cutShort reset noNmi fetched
        | instr i u =>
          rw [run_of_instr polled fetched] at ran
          exact .instr reset noNmi fetched ran

/-- A step that completes is what its boundary started, and then the end of every step. -/
theorem starts_of_step {s t : State} (stepped : step s = .next t) : ∃ u, Starts s u ∧ t = u.endStep s := by
  unfold step at stepped
  cases ran : s.run with
  | next u =>
    rw [ran] at stepped
    cases stepped
    exact ⟨u, starts_of_run ran, rfl⟩
  | fault f =>
    rw [ran] at stepped
    cases stepped
  | refused r =>
    rw [ran] at stepped
    cases stepped

/-- Settles O49: the polling's answers are `poll_of_reset` and `poll_of_noReset`, the step is `step_eq_ended`. -/
theorem boundaryOrder : Obligations.BoundaryOrder := by
  intro s
  refine ⟨fun draw reset => ?reset, fun noReset => ?noReset⟩
  case reset => rw [step_eq_ended, run_of_event (poll_of_reset reset)]
  case noReset =>
    have polled := poll_of_noReset noReset
    rw [step_eq_ended]
    dsimp only
    by_cases pending : (sampled s).nmiPending = true
    · rw [if_pos pending] at polled ⊢
      rw [run_of_event polled]
      rfl
    · rw [if_neg pending] at polled ⊢
      by_cases taken : irqTaken s = true
      · rw [if_pos taken] at polled ⊢
        rw [run_of_event polled]
        rfl
      · rw [if_neg taken] at polled ⊢
        cases fetched : (sampled s).fetch with
        | undefinedOpcode op => rw [run_of_undefinedOpcode polled fetched]
        | cutShort u => rw [run_of_cutShort polled fetched]
        | instr i u => rw [run_of_instr polled fetched]

/-! ## What every step keeps -/

section

variable {i : Instr}

theorem OperandEffect.inv {m : Mnemonic} {act : State → Byte → State} (h : OperandEffect m act) {s : State} (v : Byte)
    (inv : s.Inv) : (act s v).Inv := by
  cases h
  case adc =>
    obtain ⟨n, o, sum⟩ := State.addToA_spec s v
    rw [sum]
    exact inv
  case sbc =>
    obtain ⟨n, o, diff⟩ := State.subFromA_spec s v
    rw [diff]
    exact inv
  all_goals exact inv

theorem RegisterEffect.inv {m : Mnemonic} {act : State → State} (h : RegisterEffect m act) {s : State} (inv : s.Inv) :
    (act s).Inv := by
  cases h
  all_goals exact inv

theorem branch_inv {s : State} (taken : Bool) (off : Byte) (inv : s.Inv) : (s.branch taken off).Inv := by
  obtain ⟨w, n, eq⟩ := State.branch_spec s taken off
  rw [eq]
  exact inv

/-- Every shape of meaning keeps the invariant: each is made of operations that do. -/
theorem Means.inv {f : State → State} {stored : State → List Word} (h : Means i f stored) {s : State} (inv : s.Inv) :
    (f s).Inv := by
  cases h with
  | reads o h => exact h.inv _ (State.pageTick_inv _ _ (State.operand_inv s o inv))
  | stores addr h => exact State.storeAt_inv s addr _ inv
  | modifies addr h => exact State.modifyAt_inv s addr _ inv
  | modifiesA h acc => exact inv
  | branches off h => exact branch_inv _ off inv
  | registers h => exact h.inv inv
  | jmpAbs w h => exact inv
  | jmpInd w h => exact State.jumpIndirect_inv s w inv
  | jsr w h => exact State.callSubroutine_inv s w inv
  | rts h => exact State.returnFromSubroutine_inv s inv
  | pha h => exact State.push_inv s _ inv
  | php h => exact State.push_inv s _ inv
  | pla h => exact State.pull_inv s inv
  | plp h => exact State.pull_inv s inv
  | brk h => exact State.interrupt_inv (s.setPc _) _ _ inv
  | rti h => exact State.returnFromInterrupt_inv s inv

theorem exec_inv {s t : State} (inv : s.Inv) (meaning : exec i s = .next t) : t.Inv := by
  obtain ⟨n, f, stored, means, exec_eq, -⟩ := exists_runs i
  cases (exec_eq s).symm.trans meaning
  exact means.inv ((State.inv_advance s _ n).2 inv)

theorem exec_untouched {s t : State} (meaning : exec i s = .next t) : Untouched s t := by
  obtain ⟨n, f, stored, means, exec_eq, -⟩ := exists_runs i
  cases (exec_eq s).symm.trans meaning
  have started : Untouched s (s.advance (instrLength i) n) := ⟨rfl, rfl, rfl⟩
  exact started.trans (means.listed _).untouched

end

theorem Untouched.of_busOnly {s t : State} (h : BusOnly s t) : Untouched s t := by
  rw [h]
  exact ⟨rfl, rfl, rfl⟩

section

variable {s t : State}

/-- What a boundary starts keeps the invariant (R52). -/
theorem Starts.inv (h : Starts s t) (inv : s.Inv) : t.Inv := by
  cases h with
  | reset due => exact State.resetSequence_inv _ _ inv
  | nmi noReset pending => exact State.interrupt_inv _ _ _ inv
  | irq noReset noNmi => exact State.interrupt_inv _ _ _ inv
  | cutShort noReset noNmi fetched => exact (State.fetch_spec _ _ (.inl fetched)).2.1 inv
  | instr noReset noNmi fetched meaning => exact exec_inv ((State.fetch_spec _ _ (.inr ⟨_, fetched⟩)).2.1 inv) meaning

/-- What a boundary starts changes nothing of the configuration, and uses up one record of the inputs. -/
theorem Starts.cfg_inputs (h : Starts s t) : t.cfg = s.cfg ∧ t.inputs = s.inputs.tail := by
  cases h with
  | reset due => exact ⟨State.resetSequence_cfg _ _, State.resetSequence_inputs _ _⟩
  | nmi noReset pending => exact ⟨State.interrupt_cfg _ _ _, State.interrupt_inputs _ _ _⟩
  | irq noReset noNmi => exact ⟨State.interrupt_cfg _ _ _, State.interrupt_inputs _ _ _⟩
  | cutShort noReset noNmi fetched =>
    have read := Untouched.of_busOnly (State.fetch_spec _ _ (.inl fetched)).1
    exact ⟨read.cfg, read.inputs⟩
  | instr noReset noNmi fetched meaning =>
    have ran := (Untouched.of_busOnly (State.fetch_spec _ _ (.inr ⟨_, fetched⟩)).1).trans (exec_untouched meaning)
    exact ⟨ran.cfg, ran.inputs⟩

/-- Of the pending NMI an interrupt sequence, a fetch and an instruction leave what they find (R41, R48). -/
theorem Starts.nmiPending (h : Starts s t) : t.nmiPending = false := by
  cases h with
  | reset due => exact State.resetSequence_nmiPending _ _
  | nmi noReset pending => exact State.interrupt_nmiPending _ _ _
  | irq noReset noNmi => exact (State.interrupt_nmiPending _ _ _).trans noNmi
  | cutShort noReset noNmi fetched =>
    exact (Untouched.of_busOnly (State.fetch_spec _ _ (.inl fetched)).1).nmiPending.trans noNmi
  | instr noReset noNmi fetched meaning =>
    have read := Untouched.of_busOnly (State.fetch_spec _ _ (.inr ⟨_, fetched⟩)).1
    exact (read.trans (exec_untouched meaning)).nmiPending.trans noNmi

end

/-! ## The end of a step -/

theorem afterCuts_nmiPending {t : State} (start : Nat) (cuts : List ResetCut) (none : t.nmiPending = false) :
    (t.afterCuts start cuts).nmiPending = false := by
  induction cuts generalizing t start with
  | nil => exact none
  | cons cut rest ih => exact ih _ (State.resetSequence_nmiPending _ _)

/-- Settles O55: what a boundary can start keeps the invariant and the configuration (`Starts.inv`, `Starts.cfg_inputs`), and
so does the end of a step, after which RES is high. -/
theorem stepKeepsInvariant : Obligations.StepKeepsInvariant := by
  intro s t inv stepped
  obtain ⟨u, starts, rfl⟩ := starts_of_step stepped
  exact ⟨State.endStep_inv u s (starts.inv inv), (State.endStep_cfg u s).trans starts.cfg_inputs.1, State.endStep_resPin u s⟩

/-- Settles O56: the empty memory is in canonical form. -/
theorem resetMeetsInvariant : Obligations.ResetMeetsInvariant :=
  ⟨⟨List.Pairwise.nil, nofun⟩, nofun⟩

/-- Settles O51: whatever a boundary starts leaves no NMI pending (`Starts.nmiPending`), nor does a reset that cuts it
short. -/
theorem nmiServedOnce : Obligations.NmiServedOnce := by
  intro s t stepped
  obtain ⟨u, starts, rfl⟩ := starts_of_step stepped
  have none : (u.endStep s).nmiPending = false := afterCuts_nmiPending _ _ starts.nmiPending
  exact ⟨fun _ _ => none, fun _ _ => none⟩

/-- Settles O54: each field as `State.reset` gives it. -/
theorem stateAfterReset : Obligations.StateAfterReset :=
  ⟨rfl, rfl, rfl, rfl, rfl, rfl, rfl, rfl, rfl, rfl, rfl, rfl, rfl⟩

end Sys2Proof.Proofs
end

section
/-! PROOFS. Where an instruction changes memory (10_state.md R48, 20_memory.md R63): while nothing but the processor changes
it, each shape of meaning leaves every byte alone that lies at none of the locations it stores to. -/

namespace Sys2Proof.Proofs

open Sys2Proof.Machine Sys2Proof.Claims

section

variable {s t : State}

/-! ## What reads as before -/

theorem peek_of_kept (kept : Kept s t) (cfg : t.cfg = s.cfg) (addr : Word) : t.peek addr = s.peek addr :=
  State.peek_congr cfg kept.2.1 kept.1 addr

theorem cellAt_of_kept (kept : Kept s t) (cfg : t.cfg = s.cfg) (addr : Word) : t.cellAt addr = s.cellAt addr :=
  State.cellAt_congr cfg kept.2.1 addr

theorem cfg_of_busOnly (bus : BusOnly s t) : t.cfg = s.cfg := by
  rw [bus]

/-- A write that follows bus activity leaves every other location as it was before that activity. -/
theorem peek_busWrite_of_kept (bus : BusOnly s t) (kept : Kept s t) (target : Word) (v : Byte) {addr : Word}
    (other : s.cellAt addr ≠ s.cellAt target) : (t.busWrite target v).peek addr = s.peek addr := by
  have cfg := cfg_of_busOnly bus
  rw [← cellAt_of_kept kept cfg addr, ← cellAt_of_kept kept cfg target] at other
  rw [State.peek_busWrite_undisturbed t target addr v kept.2.2 other, peek_of_kept kept cfg]

theorem OperandEffect.peek {m : Mnemonic} {act : State → Byte → State} (h : OperandEffect m act) (s : State) (v : Byte)
    (addr : Word) : (act s v).peek addr = s.peek addr := by
  cases h
  case adc =>
    obtain ⟨n, o, sum⟩ := State.addToA_spec s v
    rw [sum]
    rfl
  case sbc =>
    obtain ⟨n, o, diff⟩ := State.subFromA_spec s v
    rw [diff]
    rfl
  all_goals rfl

theorem RegisterEffect.peek {m : Mnemonic} {act : State → State} (h : RegisterEffect m act) (s : State) (addr : Word) :
    (act s).peek addr = s.peek addr := by
  cases h
  all_goals rfl

/-! ## Pushes -/

theorem push_cellAt (u : s.undisturbed) (v : Byte) (addr : Word) : (s.push v).cellAt addr = s.cellAt addr :=
  State.cellAt_congr (State.push_cfg s v) (State.push_undisturbed s v u).1 addr

theorem push_peek (u : s.undisturbed) (v : Byte) {addr : Word} (other : s.cellAt addr ≠ s.cellAt (stackAddr s.sp)) :
    (s.push v).peek addr = s.peek addr :=
  State.peek_busWrite_undisturbed s (stackAddr s.sp) addr v u other

/-- Two pushes, as JSR makes them. -/
theorem push_push_peek (u : s.undisturbed) (v w : Byte) {addr : Word} (first : s.cellAt addr ≠ s.cellAt (stackAddr s.sp))
    (second : s.cellAt addr ≠ s.cellAt (stackAddr (s.sp - 1))) : ((s.push v).push w).peek addr = s.peek addr := by
  rw [← push_cellAt u v, ← push_cellAt u v (stackAddr _), ← State.push_sp s v] at second
  rw [push_peek (State.push_undisturbed s v u).2 w second, push_peek u v first]

/-- Three pushes, as the interrupt sequence makes them. -/
theorem push_push_push_peek (u : s.undisturbed) (v w x : Byte) {addr : Word}
    (first : s.cellAt addr ≠ s.cellAt (stackAddr s.sp)) (second : s.cellAt addr ≠ s.cellAt (stackAddr (s.sp - 1)))
    (third : s.cellAt addr ≠ s.cellAt (stackAddr (s.sp - 2))) :
    (((s.push v).push w).push x).peek addr = s.peek addr := by
  have below : s.sp - 2 = (s.push v).sp - 1 := by
    rw [State.push_sp, BitVec.sub_sub]
    rfl
  rw [← push_cellAt u v, ← push_cellAt u v (stackAddr _), ← State.push_sp s v] at second
  rw [← push_cellAt u v, ← push_cellAt u v (stackAddr _), below] at third
  rw [push_push_peek (State.push_undisturbed s v u).2 w x second third, push_peek u v first]

/-! ## The shapes of meaning -/

theorem withOperand_peek {m : Mnemonic} {act : State → Byte → State} (u : s.undisturbed) (o : Operand)
    (h : OperandEffect m act) (addr : Word) : (s.withOperand o act).peek addr = s.peek addr := by
  obtain ⟨t, bus, -, kept, eq⟩ := State.withOperand_spec s o act
  rw [eq, h.peek, peek_of_kept (kept u) (cfg_of_busOnly bus)]

theorem storeAt_peek (u : s.undisturbed) (target : Address) (v : Byte) {addr : Word}
    (other : s.cellAt addr ≠ s.cellAt (s.locate target).ea) : (s.storeAt target v).peek addr = s.peek addr := by
  obtain ⟨t, bus, kept, eq⟩ := State.storeAt_spec s target v
  rw [eq, peek_busWrite_of_kept bus (kept u) _ v other]

theorem modifyAt_peek (u : s.undisturbed) (target : Address) (change : Byte → Flags → ModifyOut) {addr : Word}
    (other : s.cellAt addr ≠ s.cellAt (s.locate target).ea) : (s.modifyAt target change).peek addr = s.peek addr := by
  obtain ⟨t, v, bus, kept, eq⟩ := State.modifyAt_spec s target change
  rw [eq, State.peek_setP, peek_busWrite_of_kept bus (kept u) _ _ other]

theorem branch_peek (s : State) (taken : Bool) (off : Byte) (addr : Word) :
    (s.branch taken off).peek addr = s.peek addr := by
  obtain ⟨w, n, eq⟩ := State.branch_spec s taken off
  rw [eq]
  rfl

theorem jumpIndirect_peek (u : s.undisturbed) (w addr : Word) : (s.jumpIndirect w).peek addr = s.peek addr := by
  obtain ⟨t, bus, kept, eq⟩ := State.jumpIndirect_spec s w
  rw [eq, State.peek_setPc, peek_of_kept (kept u) (cfg_of_busOnly bus)]

theorem returnFromSubroutine_peek (u : s.undisturbed) (addr : Word) :
    s.returnFromSubroutine.peek addr = s.peek addr := by
  obtain ⟨t, bus, kept, eq⟩ := State.returnFromSubroutine_spec s
  rw [eq, State.peek_setPc, peek_of_kept (kept u) ((cfg_of_busOnly bus).trans rfl)]

theorem returnFromInterrupt_peek (u : s.undisturbed) (addr : Word) :
    s.returnFromInterrupt.peek addr = s.peek addr := by
  obtain ⟨t, bus, kept, eq⟩ := State.returnFromInterrupt_spec s
  rw [eq, State.peek_setPc, peek_of_kept (kept u) ((cfg_of_busOnly bus).trans rfl)]

theorem pull_peek (u : s.undisturbed) (addr : Word) : s.pull.st.peek addr = s.peek addr :=
  peek_of_kept (State.pull_kept s u) (State.pull_cfg s) addr

/-- Beyond its three pushes the interrupt sequence changes no byte (R205). -/
theorem interrupt_peek (u : s.undisturbed) (vector : Word) (b : Bool) {addr : Word}
    (first : s.cellAt addr ≠ s.cellAt (stackAddr s.sp)) (second : s.cellAt addr ≠ s.cellAt (stackAddr (s.sp - 1)))
    (third : s.cellAt addr ≠ s.cellAt (stackAddr (s.sp - 2))) : (s.interrupt vector b).peek addr = s.peek addr := by
  obtain ⟨pushed, t, -, -, bus, -, kept, rfl, eq⟩ := State.interrupt_spec s vector b
  rw [← push_push_push_peek u (hi8 s.pc) (lo8 s.pc) (s.p.image b) first second third, eq]
  exact peek_of_kept (kept u).2 ((cfg_of_busOnly bus).trans rfl) addr

theorem brk_peek (u : s.undisturbed) {addr : Word}
    (other : ∀ w ∈ [stackAddr s.sp, stackAddr (s.sp - 1), stackAddr (s.sp - 2)], s.cellAt addr ≠ s.cellAt w) :
    ((s.setPc (s.pc + 1)).interrupt irqVector true).peek addr = s.peek addr := by
  simp only [List.forall_mem_cons] at other
  obtain ⟨first, second, third, -⟩ := other
  exact interrupt_peek (s := s.setPc (s.pc + 1)) u irqVector true first second third

/-- Every shape of meaning leaves the bytes alone that it does not store to. -/
theorem Means.peek {i : Instr} {f : State → State} {stored : State → List Word} (h : Means i f stored)
    (u : s.undisturbed) {addr : Word} (other : ∀ w ∈ stored s, s.cellAt addr ≠ s.cellAt w) :
    (f s).peek addr = s.peek addr := by
  cases h with
  | reads o h => exact withOperand_peek u o h addr
  | stores target h => exact storeAt_peek u target _ (other _ (List.mem_singleton_self _))
  | modifies target h => exact modifyAt_peek u target _ (other _ (List.mem_singleton_self _))
  | modifiesA h acc => rfl
  | branches off h => exact branch_peek s _ off addr
  | registers h => exact h.peek s addr
  | jmpAbs w h => rfl
  | jmpInd w h => exact jumpIndirect_peek u w addr
  | jsr w h =>
    simp only [List.forall_mem_cons] at other
    obtain ⟨first, second, -⟩ := other
    exact push_push_peek u _ _ first second
  | rts h => exact returnFromSubroutine_peek u addr
  | pha h => exact push_peek u _ (other _ (List.mem_singleton_self _))
  | php h => exact push_peek u _ (other _ (List.mem_singleton_self _))
  | pla h => exact pull_peek u addr
  | plp h => exact pull_peek u addr
  | brk h => exact brk_peek u other
  | rti h => exact returnFromInterrupt_peek u addr

end

/-- Settles O58: the start of an instruction changes neither memory nor what answers where, and `Means.peek` speaks of the
rest. -/
theorem memoryChangesOnlyWhereStored : Obligations.MemoryChangesOnlyWhereStored := by
  intro i s u
  obtain ⟨n, f, stored, means, exec_eq, storedAt_eq⟩ := exists_runs i
  refine ⟨_, exec_eq s, fun addr other => ?_⟩
  rw [storedAt_eq] at other
  exact means.peek (s := s.advance (instrLength i) n) u other

end Sys2Proof.Proofs
end

section
/-! PROOFS. Who depends on P.D (10_state.md R32): neither the bus nor an addressing mode looks at P, and of the effects only
addition, subtraction and the two that save P look at D. -/

namespace Sys2Proof.Proofs

open Sys2Proof.Machine Sys2Proof.Claims

theorem withD_eq_setP (s : State) (d : Bool) : withD s d = s.setP { s.p with d := d } := rfl

theorem setP_of_sameP {s t : State} (same : t.p = s.p) (d : Bool) : t.setP { s.p with d := d } = withD t d := by
  rw [withD_eq_setP, same]

theorem pageTick_setP (s : State) (p : Flags) (c : Bool) : (s.setP p).pageTick c = (s.pageTick c).setP p := by
  cases c <;> rfl

/-! ## The effects that neither look at D nor write it -/

/-- The instructions that do the same whatever D is and leave it alone (R32). -/
abbrev BlindToD (m : Mnemonic) : Prop := m ∉ [Mnemonic.adc, .sbc, .php, .brk, .plp, .rti, .cld, .sed]

/-- The instructions that write D without looking at it (R32). -/
abbrev LoadsD (m : Mnemonic) : Prop := m ∈ [Mnemonic.plp, .rti, .cld, .sed]

section

variable {m : Mnemonic} (d : Bool)

theorem OperandEffect.withD {act : State → Byte → State} (h : OperandEffect m act) (blind : BlindToD m) (s : State)
    (v : Byte) : act (Claims.withD s d) v = Claims.withD (act s v) d := by
  cases h
  case adc | sbc => exact absurd blind (by decide)
  all_goals rfl

theorem ByteEffect.withD {change : Byte → Flags → ModifyOut} (h : ByteEffect m change) (v : Byte) (p : Flags) :
    change v { p with d := d } = { val := (change v p).val, p := { (change v p).p with d := d } } := by
  cases h
  all_goals rfl

theorem StoredRegister.withD {reg : State → Byte} (h : StoredRegister m reg) (s : State) :
    reg (Claims.withD s d) = reg s := by
  cases h
  all_goals rfl

theorem BranchCondition.withD {cond : Flags → Bool} (h : BranchCondition m cond) (p : Flags) :
    cond { p with d := d } = cond p := by
  cases h
  all_goals rfl

theorem RegisterEffect.withD {act : State → State} (h : RegisterEffect m act) (blind : BlindToD m) (s : State) :
    act (Claims.withD s d) = Claims.withD (act s) d := by
  cases h
  case cld | sed => exact absurd blind (by decide)
  all_goals rfl

theorem RegisterEffect.ignoresD {act : State → State} (h : RegisterEffect m act) (loads : LoadsD m) (s : State) :
    act (Claims.withD s d) = act s := by
  cases h
  case cld | sed => rfl
  all_goals exact absurd loads (by decide)

theorem OperandEffect.not_loadsD {act : State → Byte → State} (h : OperandEffect m act) : ¬ LoadsD m := by
  cases h <;> decide

theorem StoredRegister.not_loadsD {reg : State → Byte} (h : StoredRegister m reg) : ¬ LoadsD m := by
  cases h <;> decide

theorem ByteEffect.not_loadsD {change : Byte → Flags → ModifyOut} (h : ByteEffect m change) : ¬ LoadsD m := by
  cases h <;> decide

theorem BranchCondition.not_loadsD {cond : Flags → Bool} (h : BranchCondition m cond) : ¬ LoadsD m := by
  cases h <;> decide

/-! ## The shared operations -/

theorem withOperand_withD (s : State) (o : Operand) {act : State → Byte → State}
    (blind : ∀ t v, act (withD t d) v = withD (act t v) d) :
    (withD s d).withOperand o act = withD (s.withOperand o act) d := by
  have read : ((s.operand o).st.pageTick (s.operand o).crossed).p = s.p := by simp
  simp only [State.withOperand, withD_eq_setP s d, State.operand_setP, pageTick_setP]
  rw [setP_of_sameP read, blind]

theorem storeAt_withD (s : State) (addr : Address) (v : Byte) :
    (withD s d).storeAt addr v = withD (s.storeAt addr v) d := by
  have stored : (s.storeAt addr v).p = s.p := by simp [State.storeAt]
  rw [← setP_of_sameP stored, withD_eq_setP]
  simp only [State.storeAt, State.locate_setP, State.busWrite_setP]

theorem modifyAt_withD (s : State) (addr : Address) {change : Byte → Flags → ModifyOut}
    (blind : ∀ v p, change v { p with d := d } = { val := (change v p).val, p := { (change v p).p with d := d } }) :
    (withD s d).modifyAt addr change = withD (s.modifyAt addr change) d := by
  simp only [State.modifyAt, withD_eq_setP, State.locate_setP, State.busRead_setP, State.setP_p, State.busRead_p,
    State.locate_p, State.takeHalt_setP, State.busWrite_setP, blind]
  rfl

theorem modifyA_withD (s : State) {change : Byte → Flags → ModifyOut}
    (blind : ∀ v p, change v { p with d := d } = { val := (change v p).val, p := { (change v p).p with d := d } }) :
    (withD s d).modifyA change = withD (s.modifyA change) d := by
  simp only [State.modifyA, withD_eq_setP, State.setP_a, State.setP_p, blind]
  rfl

theorem branch_withD (s : State) (taken : Bool) (off : Byte) :
    (withD s d).branch taken off = withD (s.branch taken off) d := by
  cases taken <;> rfl

theorem push_withD (s : State) (v : Byte) : (withD s d).push v = withD (s.push v) d := by
  rw [withD_eq_setP, State.push_setP, setP_of_sameP (State.push_p s v)]

theorem pull_withD (s : State) : (withD s d).pull = { val := s.pull.val, st := withD s.pull.st d } := by
  rw [withD_eq_setP, State.pull_setP, setP_of_sameP (State.pull_p s)]

theorem busRead_withD (s : State) (addr : Word) :
    (withD s d).busRead addr = { val := (s.busRead addr).val, st := withD (s.busRead addr).st d } := by
  rw [withD_eq_setP, State.busRead_setP, setP_of_sameP (State.busRead_p s addr)]

theorem jumpIndirect_withD (s : State) (w : Word) : (withD s d).jumpIndirect w = withD (s.jumpIndirect w) d := by
  have pointer : (withD s d).nextPointerByte w = s.nextPointerByte w := rfl
  simp only [State.jumpIndirect, busRead_withD, pointer]
  rfl

theorem callSubroutine_withD (s : State) (w : Word) :
    (withD s d).callSubroutine w = withD (s.callSubroutine w) d := by
  simp only [State.callSubroutine, push_withD]
  rfl

theorem returnFromSubroutine_withD (s : State) :
    (withD s d).returnFromSubroutine = withD s.returnFromSubroutine d := by
  simp only [State.returnFromSubroutine, pull_withD]
  rfl

theorem pullA_withD (s : State) : (withD s d).pullA = withD s.pullA d := by
  simp only [State.pullA, pull_withD]
  rfl

/-- PLP overwrites P, and the mask it holds is P.I (R184, R208). -/
theorem pullP_withD (s : State) : (withD s d).pullP = s.pullP := by
  simp only [State.pullP, pull_withD]
  rfl

/-- RTI overwrites P with its first pull (R194). -/
theorem returnFromInterrupt_withD (s : State) : (withD s d).returnFromInterrupt = s.returnFromInterrupt := by
  have overwritten (t : State) (p : Flags) : (withD t d).setP p = t.setP p := rfl
  simp only [State.returnFromInterrupt, pull_withD, overwritten]

/-! ## The shapes of meaning -/

theorem Means.withD {i : Instr} {f : State → State} {stored : State → List Word} (h : Means i f stored)
    (blind : BlindToD i.mnemonic) (s : State) : f (Claims.withD s d) = Claims.withD (f s) d := by
  have sees {m : Mnemonic} (name : i.mnemonic = m) (other : ¬ BlindToD m) : False := other (name ▸ blind)
  cases h with
  | reads o h => exact withOperand_withD d s o (h.withD d blind)
  | stores addr h => exact (storeAt_withD d s addr _).trans (by rw [h.withD])
  | modifies addr h => exact modifyAt_withD d s addr (h.withD d)
  | modifiesA h acc => exact modifyA_withD d s (h.withD d)
  | branches off h =>
    exact (branch_withD d s _ off).trans (congrArg (fun taken => Claims.withD (s.branch taken off) d) (h.withD d s.p))
  | registers h => exact h.withD d blind s
  | jmpAbs w h => rfl
  | jmpInd w h => exact jumpIndirect_withD d s w
  | jsr w h => exact callSubroutine_withD d s w
  | rts h => exact returnFromSubroutine_withD d s
  | pha h => exact push_withD d s s.a
  | php h => exact (sees h (by decide)).elim
  | pla h => exact pullA_withD d s
  | plp h => exact (sees h (by decide)).elim
  | brk h => exact (sees h (by decide)).elim
  | rti h => exact (sees h (by decide)).elim

theorem Means.ignoresD {i : Instr} {f : State → State} {stored : State → List Word} (h : Means i f stored)
    (loads : LoadsD i.mnemonic) (s : State) : f (Claims.withD s d) = f s := by
  have no {m : Mnemonic} (name : i.mnemonic = m) (other : ¬ LoadsD m) : False := other (name ▸ loads)
  cases h with
  | reads o h => exact absurd loads h.not_loadsD
  | stores addr h => exact absurd loads h.not_loadsD
  | modifies addr h => exact absurd loads h.not_loadsD
  | modifiesA h acc => exact absurd loads h.not_loadsD
  | branches off h => exact absurd loads h.not_loadsD
  | registers h => exact h.ignoresD d loads s
  | plp h => exact pullP_withD d s
  | rti h => exact returnFromInterrupt_withD d s
  | jmpAbs w h | jmpInd w h | jsr w h | rts h | pha h | php h | pla h | brk h => exact (no h (by decide)).elim

end

/-- Settles O59: the start of an instruction commutes with a change of D, then `Means.withD` and `Means.ignoresD`. -/
theorem onlyArithmeticReadsD : Obligations.OnlyArithmeticReadsD := by
  intro i s d
  obtain ⟨n, f, stored, means, exec_eq, -⟩ := exists_runs i
  have started : (withD s d).advance (instrLength i) n = withD (s.advance (instrLength i) n) d := rfl
  refine ⟨fun blind => ⟨_, exec_eq s, ?blind⟩, fun loads => ⟨_, exec_eq s, ?loads⟩⟩
  case blind => rw [exec_eq, started, means.withD d blind]
  case loads => rw [exec_eq, started, means.ignoresD d loads]

end Sys2Proof.Proofs
end

section
/-! PROOFS. Addition and subtraction (41_arithmetic_logic.md R131 to R133, R147): what ADC and SBC put into A and the flags is
the claims' arithmetic, in binary and in decimal mode, and V is the signed overflow. -/

namespace Sys2Proof.Proofs

open Sys2Proof.Machine Sys2Proof.Claims

/-! ## The rows of the table -/

theorem adcRows_read (m b : Byte) (w : Word) : ∀ f ∈ adcRows m b w, Reads State.addToA f := by
  simp only [adcRows, List.forall_mem_cons]
  refine ⟨?imm, ?abs, ?zp, ?indX, ?indY, ?zpX, ?absX, ?absY, List.forall_mem_nil _⟩ <;> exact ⟨⟨rfl, rfl⟩, fun _ => rfl⟩

theorem sbcRows_read (m b : Byte) (w : Word) : ∀ f ∈ sbcRows m b w, Reads State.subFromA f := by
  simp only [sbcRows, List.forall_mem_cons]
  refine ⟨?imm, ?abs, ?zp, ?indX, ?indY, ?zpX, ?absX, ?absY, List.forall_mem_nil _⟩ <;> exact ⟨⟨rfl, rfl⟩, fun _ => rfl⟩

/-! ## The binary result -/

theorem msb_eq_top (v : Byte) : v.msb = top v := BitVec.msb_eq_decide v

/-- V is set when the signs agree, or differ, and the result's sign is not A's: the model's test is the claims'. -/
theorem signTest_eq (x y z : Bool) :
    (x == y && z != x) = decide (x = y ∧ z ≠ x) ∧ (x != y && z != x) = decide (x ≠ y ∧ z ≠ x) := by
  revert x y z
  decide

theorem ofNat_mod_256 (n : Nat) : BitVec.ofNat 8 (n % 256) = BitVec.ofNat 8 n :=
  BitVec.eq_of_toNat_eq (Nat.mod_mod _ _)

theorem ofInt_eq_ofNat_mod (n : Int) : BitVec.ofInt 8 n = BitVec.ofNat 8 (n % 256).toNat := by
  apply BitVec.eq_of_toNat_eq
  rw [BitVec.toNat_ofInt, BitVec.toNat_ofNat]
  omega

/-- What the claims say that an addition or subtraction leaves: the byte, C and V. -/
def sumOf (r : Byte) (v c : Bool) : SumOut :=
  { val := r, n := top r, v := v, z := decide (r.toNat = 0), c := c }

theorem adcBinary_eq (a m : Byte) (c : Bool) :
    let sum := a.toNat + m.toNat + c.toNat
    let r : Byte := BitVec.ofNat 8 (sum % 256)
    adcBinary a m c = sumOf r (decide (top a = top m ∧ top r ≠ top a)) (decide (255 < sum)) := by
  intro sum r
  rw [sumOf, ← (signTest_eq _ _ _).1, ← beq_zero_eq_decide_toNat, ← msb_eq_top, ← msb_eq_top, ← msb_eq_top,
    show r = BitVec.ofNat 8 sum from ofNat_mod_256 sum]
  rfl

theorem sbcBinary_eq (a m : Byte) (c : Bool) :
    let diff : Int := (a.toNat : Int) - m.toNat - (1 - c.toNat)
    let r : Byte := BitVec.ofNat 8 (diff % 256).toNat
    sbcBinary a m c = sumOf r (decide (top a ≠ top m ∧ top r ≠ top a)) (decide (0 ≤ diff)) := by
  intro diff r
  rw [sumOf, ← (signTest_eq _ _ _).2, ← beq_zero_eq_decide_toNat, ← msb_eq_top, ← msb_eq_top, ← msb_eq_top,
    show r = BitVec.ofInt 8 diff from (ofInt_eq_ofNat_mod diff).symm]
  rfl

theorem addToA_of_binary {t : State} (binary : t.p.d = false) (m : Byte) :
    t.addToA m = t.putSum (adcBinary t.a m t.p.c) := by
  rw [State.addToA, binary, if_neg Bool.false_ne_true]

theorem subFromA_of_binary {t : State} (binary : t.p.d = false) (m : Byte) :
    t.subFromA m = t.putSum (sbcBinary t.a m t.p.c) := by
  rw [State.subFromA, binary, if_neg Bool.false_ne_true]

/-- In binary mode a row of ADC puts the sum of A, its operand and C. -/
theorem exec_adc_of_binary {m b : Byte} {w : Word} {s : State} {f : ReadRow} (row : f ∈ adcRows m b w)
    (binary : s.p.d = false) :
    exec f.instr s = .next ((afterRead s f).putSum (adcBinary s.a (operandOf s f) s.p.c)) := by
  rw [exec_of_reads (adcRows_read m b w f row), addToA_of_binary (by rw [afterRead_p, binary]), afterRead_a, afterRead_p]

/-- In binary mode a row of SBC puts the difference. -/
theorem exec_sbc_of_binary {m b : Byte} {w : Word} {s : State} {f : ReadRow} (row : f ∈ sbcRows m b w)
    (binary : s.p.d = false) :
    exec f.instr s = .next ((afterRead s f).putSum (sbcBinary s.a (operandOf s f) s.p.c)) := by
  rw [exec_of_reads (sbcRows_read m b w f row), subFromA_of_binary (by rw [afterRead_p, binary]), afterRead_a, afterRead_p]

/-- Putting a result, in the claims' terms. -/
theorem putSum_sumOf (s : State) (f : ReadRow) (r : Byte) (v c : Bool) :
    (afterRead s f).putSum (sumOf r v c) = { afterRead s f with a := r, p := { nz s.p r with c := c, v := v } } := by
  rw [← afterRead_p s f]
  rfl

/-! ## Signed overflow -/

theorem toInt_eq (v : Byte) : v.toInt = if 128 ≤ v.toNat then (v.toNat : Int) - 256 else v.toNat := by
  have := v.isLt
  rw [BitVec.toInt_eq_toNat_cond]
  split <;> split <;> omega

theorem top_eq_iff (v w : Byte) : top v = top w ↔ (128 ≤ v.toNat ↔ 128 ≤ w.toNat) :=
  decide_eq_decide

/-- A's and the operand's signs agree and the sum's differs exactly when the signed sum does not fit a byte. -/
theorem adcBinary_v_iff (a m : Byte) (c : Bool) :
    (adcBinary a m c).v = true ↔ a.toInt + m.toInt + c.toNat < -128 ∨ 127 < a.toInt + m.toInt + c.toNat := by
  have sum := BitVec.toNat_ofNat ((a.toNat + m.toNat + c.toNat) % 256) 8
  have := a.isLt
  have := m.isLt
  have := c.toNat_le
  rw [adcBinary_eq, sumOf, decide_eq_true_iff, ne_eq, top_eq_iff, top_eq_iff, toInt_eq, toInt_eq, sum]
  split <;> split <;> omega

/-- The signs differ and the difference's is not A's exactly when the signed difference does not fit a byte. -/
theorem sbcBinary_v_iff (a m : Byte) (c : Bool) :
    (sbcBinary a m c).v = true ↔
      a.toInt - m.toInt - (1 - c.toNat) < -128 ∨ 127 < a.toInt - m.toInt - (1 - c.toNat) := by
  have diff := BitVec.toNat_ofNat (((a.toNat : Int) - m.toNat - (1 - c.toNat)) % 256).toNat 8
  have := a.isLt
  have := m.isLt
  have := c.toNat_le
  rw [sbcBinary_eq, sumOf, decide_eq_true_iff, ne_eq, ne_eq, top_eq_iff, top_eq_iff, toInt_eq, toInt_eq, diff]
  split <;> split <;> omega

/-- Settles O26: V is the result's own (`exec_adc_of_binary`, `exec_sbc_of_binary`), and what it says is `adcBinary_v_iff` and
`sbcBinary_v_iff`. -/
theorem overflowIsSignedOverflow : Obligations.OverflowIsSignedOverflow := by
  intro m b w s binary
  exact ⟨fun f row => ⟨_, exec_adc_of_binary row binary, adcBinary_v_iff _ _ _⟩,
    fun f row => ⟨_, exec_sbc_of_binary row binary, sbcBinary_v_iff _ _ _⟩⟩

/-! ## Chains through C -/

theorem exec_adcImm_of_binary {s : State} (binary : s.p.d = false) (m : Byte) :
    exec (.adcImm m) s = .next ((s.advance 2 2).putSum (adcBinary s.a m s.p.c)) :=
  congrArg _ (addToA_of_binary (t := s.advance 2 2) binary m)

theorem exec_sbcImm_of_binary {s : State} (binary : s.p.d = false) (m : Byte) :
    exec (.sbcImm m) s = .next ((s.advance 2 2).putSum (sbcBinary s.a m s.p.c)) :=
  congrArg _ (subFromA_of_binary (t := s.advance 2 2) binary m)

theorem putSum_a (s : State) (o : SumOut) : (s.putSum o).a = o.val := rfl

theorem putSum_c (s : State) (o : SumOut) : (s.putSum o).p.c = o.c := rfl

theorem putSum_d (s : State) (o : SumOut) : (s.putSum o).p.d = s.p.d := rfl

theorem low_toNat (w : Word) : (low w).toNat = w.toNat % 256 := by
  rw [low, BitVec.toNat_ofNat]
  omega

theorem high_toNat (w : Word) : (high w).toNat = w.toNat / 256 := by
  have := w.isLt
  rw [high, BitVec.toNat_ofNat]
  omega

theorem word_toNat (hi lo : Byte) : (word hi lo).toNat = hi.toNat * 256 + lo.toNat := by
  rw [← mkWord_eq_word, mkWord_toNat]

theorem toNat_decide_eq_ite (q : Prop) [Decidable q] : (decide q).toNat = if q then 1 else 0 := by
  by_cases h : q <;> simp [h]

/-- The low bytes' carry is added into the high bytes: together they add the words (R147). -/
theorem adcBinary_chain (x y : Word) :
    let first := adcBinary (low x) (low y) false
    let second := adcBinary (high x) (high y) first.c
    word second.val first.val = BitVec.ofNat 16 ((x.toNat + y.toNat) % 65536) ∧
      second.c = decide (65535 < x.toNat + y.toNat) := by
  intro first second
  have := x.isLt
  have := y.isLt
  have firstVal : first.val.toNat = (x.toNat % 256 + y.toNat % 256) % 256 := by
    simp [first, adcBinary, low_toNat]
  have firstC : first.c.toNat = if 255 < x.toNat % 256 + y.toNat % 256 then 1 else 0 := by
    simp [first, adcBinary, low_toNat, toNat_decide_eq_ite]
  have secondVal : second.val.toNat = (x.toNat / 256 + y.toNat / 256 + first.c.toNat) % 256 := by
    simp [second, adcBinary, high_toNat]
  have secondC : second.c = decide (255 < x.toNat / 256 + y.toNat / 256 + first.c.toNat) := by
    simp [second, adcBinary, high_toNat]
  rw [firstC] at secondVal secondC
  refine ⟨BitVec.eq_of_toNat_eq ?_, secondC.trans (decide_eq_decide.2 ?_)⟩
  · rw [word_toNat, firstVal, secondVal, BitVec.toNat_ofNat]
    split <;> omega
  · split <;> omega

/-- So they do with the borrow, which C says is not taken. -/
theorem sbcBinary_chain (x y : Word) :
    let first := sbcBinary (low x) (low y) true
    let second := sbcBinary (high x) (high y) first.c
    word second.val first.val = BitVec.ofNat 16 ((x.toNat + 65536 - y.toNat) % 65536) ∧
      second.c = decide (y.toNat ≤ x.toNat) := by
  intro first second
  have := x.isLt
  have := y.isLt
  have firstVal : first.val.toNat = (((x.toNat % 256 : Nat) - (y.toNat % 256 : Nat) : Int) % 256).toNat := by
    simp [first, sbcBinary, low_toNat]
  have firstC : first.c.toNat = if y.toNat % 256 ≤ x.toNat % 256 then 1 else 0 := by
    simp [first, sbcBinary, low_toNat, toNat_decide_eq_ite]
    norm_cast
  have secondVal : second.val.toNat =
      (((x.toNat / 256 : Nat) - (y.toNat / 256 : Nat) - (1 - first.c.toNat) : Int) % 256).toNat := by
    simp [second, sbcBinary, high_toNat]
  have secondC : second.c = decide (0 ≤ ((x.toNat / 256 : Nat) - (y.toNat / 256 : Nat) - (1 - first.c.toNat) : Int)) := by
    simp [second, sbcBinary, high_toNat]
  rw [firstC] at secondVal secondC
  refine ⟨BitVec.eq_of_toNat_eq ?_, secondC.trans (decide_eq_decide.2 ?_)⟩
  · rw [word_toNat, firstVal, secondVal, BitVec.toNat_ofNat]
    split <;> omega
  · split <;> omega

/-- Settles O27: each instruction puts its binary result, and the two results chain by `adcBinary_chain` and
`sbcBinary_chain`. -/
theorem carryChainsAcrossBytes : Obligations.CarryChainsAcrossBytes := by
  intro s x y binary
  constructor
  case left =>
    have first := exec_adcImm_of_binary (s := { s with a := low x, p := { s.p with c := false } }) binary (low y)
    refine ⟨_, _, first, exec_adcImm_of_binary ?binary _, ?sum⟩
    case binary => exact (putSum_d _ _).trans binary
    case sum =>
      simp only [putSum_a, putSum_c]
      exact adcBinary_chain x y
  case right =>
    have first := exec_sbcImm_of_binary (s := { s with a := low x, p := { s.p with c := true } }) binary (low y)
    refine ⟨_, _, first, exec_sbcImm_of_binary ?binary _, ?difference⟩
    case binary => exact (putSum_d _ _).trans binary
    case difference =>
      simp only [putSum_a, putSum_c]
      exact sbcBinary_chain x y

/-! ## The binary forms -/

/-- Settles O21: every row puts the sum (`exec_adc_of_binary`), whose byte and flags are `adcBinary_eq`. -/
theorem adcBinary : Obligations.AdcBinary := by
  intro m b w s f row
  refine ⟨(adcRows_read m b w f row).encoded, fun binary => ?_⟩
  rw [exec_adc_of_binary row binary, adcBinary_eq, putSum_sumOf]

/-- Settles O22: every row puts the difference (`exec_sbc_of_binary`), whose byte and flags are `sbcBinary_eq`. -/
theorem sbcBinary : Obligations.SbcBinary := by
  intro m b w s f row
  refine ⟨(sbcRows_read m b w f row).encoded, fun binary => ?_⟩
  rw [exec_sbc_of_binary row binary, sbcBinary_eq, putSum_sumOf]

end Sys2Proof.Proofs
end

section
/-! PROOFS. Decimal arithmetic (41_arithmetic_logic.md R133, 93_implementation_defined.md G4, U5): the result is exact on valid
digits, the flags are free or those of G4, and on other digits everything is free. -/

namespace Sys2Proof.Proofs

open Sys2Proof.Machine Sys2Proof.Claims

/-! ## The decimal result -/

theorem validBcd_of_isBcd {v : Byte} (valid : isBcd v) : validBcd v = true := by
  rw [validBcd, Bool.and_eq_true, decide_eq_true_iff, decide_eq_true_iff]
  exact valid

section

variable {a m : Byte} (validA : isBcd a) (validM : isBcd m) (df : DecimalFlags) (c : Bool) (flagDraw valDraw : Byte)

include validA validM

/-- On valid digits the byte and C are exact, under both values of DECIMAL_FLAGS (R133). -/
theorem adcDecimal_exact :
    (adcDecimal df a m c flagDraw valDraw).val = bcdByte ((decimal a + decimal m + c.toNat) % 100) ∧
      (adcDecimal df a m c flagDraw valDraw).c = decide (99 < decimal a + decimal m + c.toNat) := by
  rw [adcDecimal, validBcd_of_isBcd validA, validBcd_of_isBcd validM]
  cases df <;> exact ⟨rfl, rfl⟩

/-- Under `nmos` the binary difference gives C, which must then be that of the digits: both say whether A, as a number, is
large enough. -/
theorem sbcBinary_c_eq_decimal :
    (Machine.sbcBinary a m c).c = decide (0 ≤ (decimal a : Int) - decimal m - (1 - c.toNat)) := by
  obtain ⟨-, lowA⟩ := validA
  obtain ⟨-, lowM⟩ := validM
  have := c.toNat_le
  refine decide_eq_decide.2 ?_
  rw [decimal, decimal]
  omega

theorem sbcDecimal_exact :
    (sbcDecimal df a m c flagDraw valDraw).val =
        bcdByte (((decimal a : Int) - decimal m - (1 - c.toNat)) % 100).toNat ∧
      (sbcDecimal df a m c flagDraw valDraw).c = decide (0 ≤ (decimal a : Int) - decimal m - (1 - c.toNat)) := by
  have binary := sbcBinary_c_eq_decimal validA validM c
  rw [sbcDecimal, validBcd_of_isBcd validA, validBcd_of_isBcd validM]
  cases df with
  | any => exact ⟨rfl, rfl⟩
  | nmos => exact ⟨rfl, binary⟩

/-- The flags that ADC leaves under `nmos` (G4). -/
theorem adcDecimal_nmos :
    let o := adcDecimal .nmos a m c flagDraw valDraw
    let mid := lowCorrectedSum a m c
    o.n = mid.msb ∧ o.v = (a.msb == m.msb && mid.msb != a.msb) ∧ o.z = (Machine.adcBinary a m c).z := by
  rw [adcDecimal, validBcd_of_isBcd validA, validBcd_of_isBcd validM]
  exact ⟨rfl, rfl, rfl⟩

/-- The flags that SBC leaves under `nmos` are those of the binary difference (G4). -/
theorem sbcDecimal_nmos :
    let o := sbcDecimal .nmos a m c flagDraw valDraw
    let bin := Machine.sbcBinary a m c
    o.n = bin.n ∧ o.v = bin.v ∧ o.z = bin.z ∧ o.c = bin.c := by
  rw [sbcDecimal, validBcd_of_isBcd validA, validBcd_of_isBcd validM]
  exact ⟨rfl, rfl, rfl, rfl⟩

end

/-! ## The decimal forms -/

theorem addToA_of_decimal {t : State} (dec : t.p.d = true) (m : Byte) :
    t.addToA m = (t.setDraws (t.draws + 2)).putSum
      (adcDecimal t.cfg.decimalFlags t.a m t.p.c (freeByte t.draws) (freeByte (t.draws + 1))) := by
  rw [State.addToA, if_pos dec]

theorem subFromA_of_decimal {t : State} (dec : t.p.d = true) (m : Byte) :
    t.subFromA m = (t.setDraws (t.draws + 2)).putSum
      (sbcDecimal t.cfg.decimalFlags t.a m t.p.c (freeByte t.draws) (freeByte (t.draws + 1))) := by
  rw [State.subFromA, if_pos dec]

theorem afterRead_cfg (s : State) (f : ReadRow) : (afterRead s f).cfg = s.cfg :=
  State.operand_cfg (started s f.len f.n) f.operand

/-- What a decimal addition or subtraction leaves, in the claims' terms: two values drawn, A, and four flags. -/
abbrev decimalEnd (s : State) (f : ReadRow) (o : SumOut) : State :=
  { afterRead s f with
    draws := (fetched s f).st.draws + 2, a := o.val, p := { s.p with n := o.n, v := o.v, z := o.z, c := o.c } }

/-- The free values that a row draws, the flags' first. -/
abbrev drawn (s : State) (f : ReadRow) (k : Nat) : Byte := freeByte ((fetched s f).st.draws + k)

theorem putSum_eq_decimalEnd (s : State) (f : ReadRow) (o : SumOut) :
    ((afterRead s f).setDraws ((afterRead s f).draws + 2)).putSum o = decimalEnd s f o := by
  rw [decimalEnd, ← afterRead_p s f]
  rfl

/-- In decimal mode a row of ADC puts the decimal sum. -/
theorem exec_adc_of_decimal {m b : Byte} {w : Word} {s : State} {f : ReadRow} (row : f ∈ adcRows m b w)
    (dec : s.p.d = true) :
    exec f.instr s = .next (decimalEnd s f
      (adcDecimal s.cfg.decimalFlags s.a (operandOf s f) s.p.c (drawn s f 0) (drawn s f 1))) := by
  rw [exec_of_reads (adcRows_read m b w f row), addToA_of_decimal (by rw [afterRead_p, dec]), afterRead_a, afterRead_p,
    afterRead_cfg, putSum_eq_decimalEnd]
  rfl

/-- In decimal mode a row of SBC puts the decimal difference. -/
theorem exec_sbc_of_decimal {m b : Byte} {w : Word} {s : State} {f : ReadRow} (row : f ∈ sbcRows m b w)
    (dec : s.p.d = true) :
    exec f.instr s = .next (decimalEnd s f
      (sbcDecimal s.cfg.decimalFlags s.a (operandOf s f) s.p.c (drawn s f 0) (drawn s f 1))) := by
  rw [exec_of_reads (sbcRows_read m b w f row), subFromA_of_decimal (by rw [afterRead_p, dec]), afterRead_a, afterRead_p,
    afterRead_cfg, putSum_eq_decimalEnd]
  rfl

/-- With the byte and C known the end is as the claims say, the other three flags being some values. -/
theorem decimalEnd_of {s : State} {f : ReadRow} {o : SumOut} {r : Byte} {c : Bool} (val : o.val = r) (carry : o.c = c) :
    ∃ n v z, decimalEnd s f o = { afterRead s f with
      draws := (fetched s f).st.draws + 2, a := r, p := { s.p with n := n, v := v, z := z, c := c } } := by
  subst val carry
  exact ⟨o.n, o.v, o.z, rfl⟩

/-- Settles O23: every row puts the decimal result, whose byte and C are exact (`adcDecimal_exact`, `sbcDecimal_exact`). -/
theorem decimalArithmetic : Obligations.DecimalArithmetic := by
  intro m b w s dec validA
  refine ⟨fun f row validM => ?adc, fun f row validM => ?sbc⟩
  case adc =>
    obtain ⟨val, carry⟩ := adcDecimal_exact validA validM s.cfg.decimalFlags s.p.c (drawn s f 0) (drawn s f 1)
    obtain ⟨n, v, z, eq⟩ := decimalEnd_of (s := s) (f := f) val carry
    exact ⟨n, v, z, (exec_adc_of_decimal row dec).trans (congrArg _ eq)⟩
  case sbc =>
    obtain ⟨val, carry⟩ := sbcDecimal_exact validA validM s.cfg.decimalFlags s.p.c (drawn s f 0) (drawn s f 1)
    obtain ⟨n, v, z, eq⟩ := decimalEnd_of (s := s) (f := f) val carry
    exact ⟨n, v, z, (exec_sbc_of_decimal row dec).trans (congrArg _ eq)⟩

/-- Settles O24: every row puts some decimal result, whatever the digits are. -/
theorem decimalArithmeticOnInvalidDigits : Obligations.DecimalArithmeticOnInvalidDigits := by
  intro m b w s dec f row _
  rcases List.mem_append.1 row with row | row
  · exact ⟨_, _, _, _, _, exec_adc_of_decimal row dec⟩
  · exact ⟨_, _, _, _, _, exec_sbc_of_decimal row dec⟩

/-! ## The flags of nmos -/

theorem putSum_p (s : State) (o : SumOut) :
    (s.putSum o).p = { s.p with n := o.n, v := o.v, z := o.z, c := o.c } := rfl

theorem adcBinary_z (a m : Byte) (c : Bool) :
    (Machine.adcBinary a m c).z = decide ((a.toNat + m.toNat + c.toNat) % 256 = 0) := by
  rw [adcBinary_eq, sumOf, BitVec.toNat_ofNat]
  exact decide_eq_decide.2 (by omega)

/-- The operand does not depend on D. -/
theorem operandOf_withD (s : State) (d : Bool) (f : ReadRow) : operandOf (withD s d) f = operandOf s f := by
  have started : Claims.started (withD s d) f.len f.n = (Claims.started s f.len f.n).setP { s.p with d := d } := rfl
  rw [operandOf, fetched, started, State.operand_setP]
  rfl

/-- Settles O25: ADC leaves the flags of `adcDecimal_nmos`; SBC leaves those of `sbcDecimal_nmos`, which are what the same
row puts with D cleared, as its operand does not depend on D. -/
theorem nmosDecimalFlags : Obligations.NmosDecimalFlags := by
  intro m b w s dec nmos validA
  refine ⟨fun f row validM => ⟨_, exec_adc_of_decimal row dec, ?adc⟩,
    fun f row validM => ⟨_, _, exec_sbc_of_decimal row dec, exec_sbc_of_binary row rfl, ?sbc⟩⟩
  case adc =>
    obtain ⟨n, v, z⟩ := adcDecimal_nmos validA validM s.p.c (drawn s f 0) (drawn s f 1)
    rw [← nmos] at n v z
    rw [msb_eq_top, msb_eq_top, msb_eq_top, (signTest_eq _ _ _).1] at v
    exact ⟨z.trans (adcBinary_z _ _ _), n.trans (msb_eq_top _), v⟩
  case sbc =>
    obtain ⟨n, v, z, c⟩ := sbcDecimal_nmos validA validM s.p.c (drawn s f 0) (drawn s f 1)
    rw [← nmos] at n v z c
    rw [operandOf_withD, putSum_p, afterRead_p]
    simp only [n, v, z, c, ← dec]
    rfl

end Sys2Proof.Proofs
end

section
/-! PROOFS. Logic, compares, increments and decrements (41_arithmetic_logic.md R134 to R146): each row of the opcode table is its
family's shared operation, and what the operation computes is the claims' arithmetic. -/

namespace Sys2Proof.Proofs

open Sys2Proof.Machine Sys2Proof.Claims

/-! ## Logic -/

theorem andRows_read (m b : Byte) (w : Word) : ∀ f ∈ andRows m b w, Reads State.andWithA f := by
  simp only [andRows, List.forall_mem_cons]
  refine ⟨?imm, ?abs, ?zp, ?indX, ?indY, ?zpX, ?absX, ?absY, List.forall_mem_nil _⟩ <;> exact ⟨⟨rfl, rfl⟩, fun _ => rfl⟩

theorem oraRows_read (m b : Byte) (w : Word) : ∀ f ∈ oraRows m b w, Reads State.orWithA f := by
  simp only [oraRows, List.forall_mem_cons]
  refine ⟨?imm, ?abs, ?zp, ?indX, ?indY, ?zpX, ?absX, ?absY, List.forall_mem_nil _⟩ <;> exact ⟨⟨rfl, rfl⟩, fun _ => rfl⟩

theorem eorRows_read (m b : Byte) (w : Word) : ∀ f ∈ eorRows m b w, Reads State.xorWithA f := by
  simp only [eorRows, List.forall_mem_cons]
  refine ⟨?imm, ?abs, ?zp, ?indX, ?indY, ?zpX, ?absX, ?absY, List.forall_mem_nil _⟩ <;> exact ⟨⟨rfl, rfl⟩, fun _ => rfl⟩

/-- Settles O28: every row loads A with A combined with its operand (`andRows_read`, `oraRows_read`, `eorRows_read`), and a
load sets N and Z (`loadA_eq`). -/
theorem logic : Obligations.Logic := by
  intro m b w s
  refine ⟨fun f row => ?and, fun f row => ?ora, fun f row => ?eor⟩
  case and =>
    have reads := andRows_read m b w f row
    exact ⟨reads.encoded, by rw [exec_of_reads reads, State.andWithA, loadA_eq, afterRead_a, afterRead_p]⟩
  case ora =>
    have reads := oraRows_read m b w f row
    exact ⟨reads.encoded, by rw [exec_of_reads reads, State.orWithA, loadA_eq, afterRead_a, afterRead_p]⟩
  case eor =>
    have reads := eorRows_read m b w f row
    exact ⟨reads.encoded, by rw [exec_of_reads reads, State.xorWithA, loadA_eq, afterRead_a, afterRead_p]⟩

/-! ## Compares -/

theorem cmpRows_read (m b : Byte) (w : Word) : ∀ f ∈ cmpRows m b w, Reads State.compareA f := by
  simp only [cmpRows, List.forall_mem_cons]
  refine ⟨?imm, ?abs, ?zp, ?indX, ?indY, ?zpX, ?absX, ?absY, List.forall_mem_nil _⟩ <;> exact ⟨⟨rfl, rfl⟩, fun _ => rfl⟩

theorem cpxRows_read (m b : Byte) (w : Word) : ∀ f ∈ cpxRows m b w, Reads State.compareX f := by
  simp only [cpxRows, List.forall_mem_cons]
  refine ⟨?imm, ?abs, ?zp, List.forall_mem_nil _⟩ <;> exact ⟨⟨rfl, rfl⟩, fun _ => rfl⟩

theorem cpyRows_read (m b : Byte) (w : Word) : ∀ f ∈ cpyRows m b w, Reads State.compareY f := by
  simp only [cpyRows, List.forall_mem_cons]
  refine ⟨?imm, ?abs, ?zp, List.forall_mem_nil _⟩ <;> exact ⟨⟨rfl, rfl⟩, fun _ => rfl⟩

theorem afterRead_x (s : State) (f : ReadRow) : (afterRead s f).x = s.x :=
  State.operand_x (started s f.len f.n) f.operand

theorem afterRead_y (s : State) (f : ReadRow) : (afterRead s f).y = s.y :=
  State.operand_y (started s f.len f.n) f.operand

theorem sub_eq_ofNat (r m : Byte) : r - m = BitVec.ofNat 8 ((r.toNat + 256 - m.toNat) % 256) := by
  apply BitVec.eq_of_toNat_eq
  have := m.isLt
  rw [BitVec.toNat_sub, BitVec.toNat_ofNat]
  omega

/-- The flags of register minus operand (R137). -/
theorem compare_eq (p : Flags) (r m : Byte) :
    p.compare r m =
      { nz p (BitVec.ofNat 8 ((r.toNat + 256 - m.toNat) % 256)) with c := decide (m.toNat ≤ r.toNat) } := by
  rw [Flags.compare, setNZ_eq_nz, sub_eq_ofNat]

/-- A compare writes the flags alone. -/
theorem setP_afterRead (s : State) (f : ReadRow) (r m : Byte) :
    (afterRead s f).setP ((afterRead s f).p.compare r m) =
      { afterRead s f with
        p := { nz s.p (BitVec.ofNat 8 ((r.toNat + 256 - m.toNat) % 256)) with c := decide (m.toNat ≤ r.toNat) } } := by
  rw [compare_eq, afterRead_p]
  rfl

/-- Settles O29: every row compares its register with its operand (`cmpRows_read`, `cpxRows_read`, `cpyRows_read`), and a
compare writes the flags of `compare_eq`. -/
theorem compares : Obligations.Compares := by
  intro m b w s
  refine ⟨fun f row => ?cmp, fun f row => ?cpx, fun f row => ?cpy⟩
  case cmp =>
    have reads := cmpRows_read m b w f row
    exact ⟨reads.encoded, by rw [exec_of_reads reads, State.compareA, setP_afterRead, afterRead_a]⟩
  case cpx =>
    have reads := cpxRows_read m b w f row
    exact ⟨reads.encoded, by rw [exec_of_reads reads, State.compareX, setP_afterRead, afterRead_x]⟩
  case cpy =>
    have reads := cpyRows_read m b w f row
    exact ⟨reads.encoded, by rw [exec_of_reads reads, State.compareY, setP_afterRead, afterRead_y]⟩

/-! ## Increments and decrements -/

theorem add_one_eq_ofNat (v : Byte) : v + 1 = BitVec.ofNat 8 ((v.toNat + 1) % 256) := by
  apply BitVec.eq_of_toNat_eq
  rw [BitVec.toNat_add, BitVec.toNat_ofNat, Nat.mod_mod]
  rfl

theorem sub_one_eq_ofNat (v : Byte) : v - 1 = BitVec.ofNat 8 ((v.toNat + 255) % 256) :=
  sub_eq_ofNat v 1

theorem incByte_eq (v : Byte) (p : Flags) :
    incByte v p =
      { val := BitVec.ofNat 8 ((v.toNat + 1) % 256), p := nz p (BitVec.ofNat 8 ((v.toNat + 1) % 256)) } := by
  rw [incByte, setNZ_eq_nz, add_one_eq_ofNat]

theorem decByte_eq (v : Byte) (p : Flags) :
    decByte v p =
      { val := BitVec.ofNat 8 ((v.toNat + 255) % 256), p := nz p (BitVec.ofNat 8 ((v.toNat + 255) % 256)) } := by
  rw [decByte, setNZ_eq_nz, sub_one_eq_ofNat]

theorem incRows_modify (b : Byte) (w : Word) : ∀ f ∈ incRows b w, Modifies incByte f := by
  simp only [incRows, List.forall_mem_cons]
  refine ⟨?abs, ?zp, ?zpX, ?absX, List.forall_mem_nil _⟩ <;> exact ⟨⟨rfl, rfl⟩, fun _ => rfl⟩

theorem decRows_modify (b : Byte) (w : Word) : ∀ f ∈ decRows b w, Modifies decByte f := by
  simp only [decRows, List.forall_mem_cons]
  refine ⟨?abs, ?zp, ?zpX, ?absX, List.forall_mem_nil _⟩ <;> exact ⟨⟨rfl, rfl⟩, fun _ => rfl⟩

/-- Settles O31: every row applies `incByte` or `decByte` to the byte it reads (`incRows_modify`, `decRows_modify`), which
`incByte_eq` and `decByte_eq` compute. -/
theorem incrementsOfMemory : Obligations.IncrementsOfMemory := by
  intro b w s
  refine ⟨fun f row => ?inc, fun f row => ?dec⟩
  case inc =>
    have modifies := incRows_modify b w f row
    exact ⟨modifies.encoded, by rw [exec_of_modifies modifies, incByte_eq]⟩
  case dec =>
    have modifies := decRows_modify b w f row
    exact ⟨modifies.encoded, by rw [exec_of_modifies modifies, decByte_eq]⟩

/-- Each of the four is the load of an index register with its own byte plus or minus one. -/
theorem exec_indexStep (s : State) :
    exec .inx s = .next ((s.advance 1 2).loadX (s.x + 1)) ∧ exec .iny s = .next ((s.advance 1 2).loadY (s.y + 1)) ∧
    exec .dex s = .next ((s.advance 1 2).loadX (s.x - 1)) ∧ exec .dey s = .next ((s.advance 1 2).loadY (s.y - 1)) :=
  ⟨rfl, rfl, rfl, rfl⟩

/-- Settles O32: the four are loads (`exec_indexStep`), whose flags `loadX_eq` and `loadY_eq` give. -/
theorem incrementsOfIndexes : Obligations.IncrementsOfIndexes := by
  intro s
  obtain ⟨inx, iny, dex, dey⟩ := exec_indexStep s
  rw [advance_eq_started, loadX_eq, add_one_eq_ofNat] at inx
  rw [advance_eq_started, loadY_eq, add_one_eq_ofNat] at iny
  rw [advance_eq_started, loadX_eq, sub_one_eq_ofNat] at dex
  rw [advance_eq_started, loadY_eq, sub_one_eq_ofNat] at dey
  exact ⟨⟨⟨rfl, rfl⟩, inx⟩, ⟨⟨rfl, rfl⟩, iny⟩, ⟨⟨rfl, rfl⟩, dex⟩, ⟨⟨rfl, rfl⟩, dey⟩⟩

end Sys2Proof.Proofs
end

section
/-! PROOFS. Rotates (42_shift_rotate.md R153, R154): ROL and ROR turn a ring of nine bits, the byte and C, by one place; so nine
turns restore it, and one turn back undoes one forth. -/

namespace Sys2Proof.Proofs

open Sys2Proof.Machine Sys2Proof.Claims

theorem rolByte_eq (v : Byte) (p : Flags) :
    rolByte v p =
      { val := BitVec.ofNat 8 (v.toNat * 2 % 256 + p.c.toNat)
        p := { nz p (BitVec.ofNat 8 (v.toNat * 2 % 256 + p.c.toNat)) with c := digit v 7 } } := by
  rw [← setNZ_eq_nz, ← bit_eq_digit]
  rfl

theorem rorByte_eq (v : Byte) (p : Flags) :
    rorByte v p =
      { val := BitVec.ofNat 8 (v.toNat / 2 + p.c.toNat * 128)
        p := { nz p (BitVec.ofNat 8 (v.toNat / 2 + p.c.toNat * 128)) with c := digit v 0 } } := by
  rw [← setNZ_eq_nz, ← bit_eq_digit]
  rfl

theorem rolRows_modify (b : Byte) (w : Word) : ∀ f ∈ rolRows b w, Modifies rolByte f := by
  simp only [rolRows, List.forall_mem_cons]
  refine ⟨?abs, ?zp, ?zpX, ?absX, List.forall_mem_nil _⟩ <;> exact ⟨⟨rfl, rfl⟩, fun _ => rfl⟩

theorem rorRows_modify (b : Byte) (w : Word) : ∀ f ∈ rorRows b w, Modifies rorByte f := by
  simp only [rorRows, List.forall_mem_cons]
  refine ⟨?abs, ?zp, ?zpX, ?absX, List.forall_mem_nil _⟩ <;> exact ⟨⟨rfl, rfl⟩, fun _ => rfl⟩

theorem exec_rolAcc (s : State) : exec .rolAcc s = .next ((s.advance 1 2).modifyA rolByte) := rfl

theorem exec_rorAcc (s : State) : exec .rorAcc s = .next ((s.advance 1 2).modifyA rorByte) := rfl

/-- Settles O34: the rows in memory apply `rolByte` or `rorByte` to the byte they read (`rolRows_modify`, `rorRows_modify`),
the accumulator forms to A; what the two make of a byte is `rolByte_eq` and `rorByte_eq`. -/
theorem rotates : Obligations.Rotates := by
  intro b w s left leftFlags right rightFlags
  refine ⟨⟨⟨rfl, rfl⟩, ?rolAcc⟩, fun f row => ?rolMem, ⟨⟨rfl, rfl⟩, ?rorAcc⟩, fun f row => ?rorMem⟩
  case rolAcc => rw [exec_rolAcc, modifyA_eq_started, rolByte_eq]
  case rolMem =>
    have modifies := rolRows_modify b w f row
    exact ⟨modifies.encoded, by rw [exec_of_modifies modifies, rolByte_eq]⟩
  case rorAcc => rw [exec_rorAcc, modifyA_eq_started, rorByte_eq]
  case rorMem =>
    have modifies := rorRows_modify b w f row
    exact ⟨modifies.encoded, by rw [exec_of_modifies modifies, rorByte_eq]⟩

/-! ## The ring of nine bits -/

/-- Bit `k` of the ring, counted modulo 9: the byte from bit 0 up, then C. -/
def ringBit (v : Byte) (c : Bool) (k : Nat) : Bool := if k % 9 = 8 then c else v.toNat.testBit (k % 9)

theorem ringBit_add_nine (v : Byte) (c : Bool) (k : Nat) : ringBit v c (k + 9) = ringBit v c k := by
  rw [ringBit, Nat.add_mod_right, ringBit]

/-- The ring determines the byte and the carry. -/
theorem ring_ext {v w : Byte} {c d : Bool} (same : ∀ k, ringBit v c k = ringBit w d k) : v = w ∧ c = d := by
  refine ⟨BitVec.eq_of_getLsbD_eq fun k small => ?_, same 8⟩
  have bit := same k
  rwa [ringBit, ringBit, Nat.mod_eq_of_lt (by omega), if_neg (by omega), if_neg (by omega)] at bit

theorem toNat_rol (v : Byte) (p : Flags) : (rolByte v p).val.toNat = v.toNat % 128 * 2 + p.c.toNat := by
  have := p.c.toNat_le
  rw [rolByte, BitVec.toNat_ofNat]
  omega

theorem toNat_ror (v : Byte) (p : Flags) : (rorByte v p).val.toNat = 2 ^ 7 * p.c.toNat + v.toNat / 2 := by
  have := p.c.toNat_le
  have := v.isLt
  rw [rorByte, BitVec.toNat_ofNat]
  omega

theorem testBit_toNat_zero (c : Bool) : c.toNat.testBit 0 = c := by
  cases c <;> rfl

/-- ROL moves every bit of the ring one place up (R153). -/
theorem ringBit_rol (v : Byte) (p : Flags) (k : Nat) :
    ringBit (rolByte v p).val (rolByte v p).p.c (k + 1) = ringBit v p.c k := by
  have place : k % 9 = 8 ∧ (k + 1) % 9 = 0 ∨ k % 9 = 7 ∧ (k + 1) % 9 = 8 ∨ k % 9 < 7 ∧ (k + 1) % 9 = k % 9 + 1 := by omega
  have low : (v.toNat % 128 * 2 + p.c.toNat) / 2 = v.toNat % 2 ^ 7 := by
    have := p.c.toNat_le
    omega
  have bottom : (v.toNat % 128 * 2 + p.c.toNat).testBit 0 = p.c := by
    rw [Nat.testBit_zero, Nat.mul_add_mod_self_right, ← Nat.testBit_zero, testBit_toNat_zero]
  rw [ringBit, ringBit, toNat_rol]
  obtain ⟨top, next⟩ | ⟨top, next⟩ | ⟨inside, next⟩ := place
  · rw [next, top, if_neg (by decide), if_pos rfl, bottom]
  · rw [next, top, if_pos rfl, if_neg (by decide)]
    rfl
  · rw [next, if_neg (by omega), if_neg (by omega), Nat.testBit_succ, low, Nat.testBit_mod_two_pow,
      decide_eq_true inside, Bool.true_and]

/-- ROR moves every bit of the ring one place down (R154). -/
theorem ringBit_ror (v : Byte) (p : Flags) (k : Nat) :
    ringBit (rorByte v p).val (rorByte v p).p.c k = ringBit v p.c (k + 1) := by
  have place : k % 9 = 8 ∧ (k + 1) % 9 = 0 ∨ k % 9 = 7 ∧ (k + 1) % 9 = 8 ∨ k % 9 < 7 ∧ (k + 1) % 9 = k % 9 + 1 := by omega
  have half : v.toNat / 2 < 2 ^ 7 := by
    have := v.isLt
    omega
  rw [ringBit, ringBit, toNat_ror, Nat.testBit_two_pow_mul_add _ half]
  obtain ⟨top, next⟩ | ⟨top, next⟩ | ⟨inside, next⟩ := place
  · rw [next, top, if_pos rfl, if_neg (by decide)]
    rfl
  · rw [next, top, if_neg (by decide), if_neg (by decide), if_pos rfl, testBit_toNat_zero]
  · rw [next, if_neg (by omega), if_pos inside, if_neg (by omega), Nat.testBit_succ]

/-! ## Turning the accumulator and C -/

/-- The ring that A and C form. -/
abbrev ringOf (s : State) (k : Nat) : Bool := ringBit s.a s.p.c k

theorem execTimes_rolAcc (n : Nat) (s : State) :
    ∃ t, execTimes .rolAcc n s = .next t ∧ ∀ k, ringOf t (k + n) = ringOf s k := by
  induction n generalizing s with
  | zero => exact ⟨s, rfl, fun _ => rfl⟩
  | succ n ih =>
    obtain ⟨t, ran, ring⟩ := ih ((s.advance 1 2).modifyA rolByte)
    refine ⟨t, by rw [execTimes, exec_rolAcc]; exact ran, fun k => ?_⟩
    rw [show k + (n + 1) = k + 1 + n by omega, ring]
    exact ringBit_rol s.a s.p k

theorem execTimes_rorAcc (n : Nat) (s : State) :
    ∃ t, execTimes .rorAcc n s = .next t ∧ ∀ k, ringOf t k = ringOf s (k + n) := by
  induction n generalizing s with
  | zero => exact ⟨s, rfl, fun _ => rfl⟩
  | succ n ih =>
    obtain ⟨t, ran, ring⟩ := ih ((s.advance 1 2).modifyA rorByte)
    refine ⟨t, by rw [execTimes, exec_rorAcc]; exact ran, fun k => ?_⟩
    rw [ring, ← Nat.add_assoc]
    exact ringBit_ror s.a s.p (k + n)

/-- Settles O35: nine turns either way bring every bit of the ring back to its place (`ringBit_add_nine`), and one turn down
undoes one turn up. -/
theorem nineRotatesRestore : Obligations.NineRotatesRestore := by
  intro s
  refine ⟨?rol, ?ror, ?undo⟩
  case rol =>
    obtain ⟨t, ran, ring⟩ := execTimes_rolAcc 9 s
    exact ⟨t, ran, ring_ext fun k => (ringBit_add_nine _ _ k).symm.trans (ring k)⟩
  case ror =>
    obtain ⟨t, ran, ring⟩ := execTimes_rorAcc 9 s
    exact ⟨t, ran, ring_ext fun k => (ring k).trans (ringBit_add_nine _ _ k)⟩
  case undo =>
    refine ⟨_, _, exec_rolAcc s, exec_rorAcc _, ring_ext fun k => ?_⟩
    exact (ringBit_ror _ _ k).trans (ringBit_rol s.a s.p k)

end Sys2Proof.Proofs
end

section
/-! PROOFS. The bus (20_memory.md R52, R53, R55): what an access does depends on the address modulo the part's pins; where
memory, a device or nothing answers; and what RES inhibits. -/

namespace Sys2Proof.Proofs

open Sys2Proof.Machine Sys2Proof.Claims

/-! ## Addresses that a part cannot tell apart -/

theorem addrPins_eq_pinsOf (part : Part) : addrPins part = pinsOf part := by
  cases part <;> rfl

theorem busAddr_eq (s : State) (addr : Word) : s.busAddr addr = addr.toNat % 2 ^ pinsOf s.cfg.part := by
  rw [State.busAddr, busSize, addrPins_eq_pinsOf]

/-- The bus address depends on the part alone. -/
theorem busAddr_of_cfg {s t : State} (cfg : t.cfg = s.cfg) (addr : Word) : t.busAddr addr = s.busAddr addr := by
  rw [State.busAddr, State.busAddr, cfg]

section

variable {s : State} {a b : Word} (same : s.busAddr a = s.busAddr b)

include same

theorem regionAt_of_busAddr : s.regionAt a = s.regionAt b := by
  rw [State.regionAt, State.regionAt, same]

theorem kindAt_of_busAddr : s.kindAt a = s.kindAt b := by
  rw [State.kindAt, State.kindAt, regionAt_of_busAddr same]

theorem cellAt_of_busAddr : s.cellAt a = s.cellAt b := by
  rw [State.cellAt, State.cellAt, regionAt_of_busAddr same, same]

theorem peek_of_busAddr : s.peek a = s.peek b := by
  rw [State.peek, State.peek, cellAt_of_busAddr same]

theorem devicesMove_ruleFor (access : BusAccess) : s.devicesMove.ruleFor a access = s.devicesMove.ruleFor b access := by
  have cfg : s.devicesMove.cfg = s.cfg := by
    rw [State.devicesMove_plat_only]
    rfl
  rw [State.ruleFor, State.ruleFor, busAddr_of_cfg cfg, busAddr_of_cfg cfg, same]

theorem deviceRead_of_busAddr (behind : Option Byte) : s.deviceRead a behind = s.deviceRead b behind := by
  simp only [State.deviceRead, devicesMove_ruleFor same]

theorem deviceWrite_of_busAddr (v : Byte) : s.deviceWrite a v = s.deviceWrite b v := by
  simp only [State.deviceWrite, devicesMove_ruleFor same]

theorem platformRead_of_busAddr : s.platformRead a = s.platformRead b := by
  simp only [State.platformRead, kindAt_of_busAddr same, peek_of_busAddr same, deviceRead_of_busAddr same]

theorem store_of_busAddr (v : Byte) : s.store a v = s.store b v := by
  rw [State.store, State.store, cellAt_of_busAddr same]

theorem platformWrite_of_busAddr (v : Byte) : s.platformWrite a v = s.platformWrite b v := by
  have stored : (s.store b v).deviceWrite a v = (s.store b v).deviceWrite b v :=
    deviceWrite_of_busAddr (s := s.store b v) same v
  simp only [State.platformWrite, kindAt_of_busAddr same, store_of_busAddr same, deviceWrite_of_busAddr same, stored]

theorem processorRead_of_busAddr : s.processorRead a = s.processorRead b := by
  simp only [State.processorRead, platformRead_of_busAddr (s := s.setResPin s.resPin.next) same]

theorem busRead_of_busAddr : s.busRead a = s.busRead b := by
  have halted : s.takeHalt.busAddr a = s.takeHalt.busAddr b := by
    rw [busAddr_of_cfg (State.takeHalt_cfg s), busAddr_of_cfg (State.takeHalt_cfg s), same]
  rw [State.busRead, State.busRead, processorRead_of_busAddr halted]

theorem busWrite_of_busAddr (v : Byte) : s.busWrite a v = s.busWrite b v := by
  simp only [State.busWrite, platformWrite_of_busAddr (s := s.setResPin s.resPin.next) same]

end

/-- Settles O9: the bus address is the truncated one (`busAddr_eq`), and reads and writes see nothing else of an address
(`busRead_of_busAddr`, `busWrite_of_busAddr`). -/
theorem busTruncation : Obligations.BusTruncation := by
  intro s
  refine ⟨busAddr_eq s, fun a b v same => ?_⟩
  rw [← busAddr_eq, ← busAddr_eq] at same
  exact ⟨busRead_of_busAddr same, busWrite_of_busAddr same v⟩

/-! ## The processor's accesses as RES falls -/

theorem busWrite_of_inhibited {s : State} (inhibited : s.resPin.next = .low) (addr : Word) (v : Byte) :
    s.busWrite addr v = s.setResPin .low := by
  simp only [State.busWrite, inhibited, State.setResPin_resPin, if_true]

theorem processorRead_of_inhibited {s : State} (inhibited : s.resPin.next = .low) (addr : Word) :
    (s.processorRead addr).st = (s.setResPin .low).setDraws (s.draws + 1) := by
  simp only [State.processorRead, inhibited, State.setResPin_resPin, if_true, State.setResPin_draws]

theorem busWrite_of_made {s : State} (made : s.resPin.next ≠ .low) (addr : Word) (v : Byte) :
    s.busWrite addr v = (s.setResPin s.resPin.next).platformWrite addr v := by
  simp only [State.busWrite, State.setResPin_resPin, made, if_false]

theorem processorRead_of_made {s : State} (made : s.resPin.next ≠ .low) (addr : Word) :
    s.processorRead addr = (s.setResPin s.resPin.next).platformRead addr := by
  simp only [State.processorRead, State.setResPin_resPin, made, if_false]

/-- A write can change nothing but memory, the devices and how long RES stays high. -/
theorem busWrite_only (s : State) (addr : Word) (v : Byte) :
    s.busWrite addr v =
      { s with
        mem := (s.busWrite addr v).mem, plat := (s.busWrite addr v).plat, resPin := (s.busWrite addr v).resPin } := by
  rw [State.busWrite_resPin]
  exact State.busWrite_frame s addr v

/-! ## What devices do -/

theorem pokeAll_eq (s : State) (ps : List Poke) :
    s.pokeAll ps =
      { s with mem := ps.foldl (fun m q => if platformHas s.cfg q.cell then Memory.write m q.cell q.val else m) s.mem } := by
  induction ps generalizing s with
  | nil => rfl
  | cons q rest ih =>
    have first : s.poke q.cell q.val =
        { s with mem := if platformHas s.cfg q.cell then Memory.write s.mem q.cell q.val else s.mem } := by
      rw [State.poke]
      split <;> rfl
    rw [State.pokeAll, List.foldl_cons, ← State.pokeAll, ih, first, List.foldl_cons]

/-- The side effects of an entry are those the claims name. -/
theorem follow_some (s : State) (r : DeviceRule) : s.follow (some r) = ruled s r := by
  rw [State.follow, pokeAll_eq]
  rfl

theorem devicesMove_of_still {s : State} (still : s.plat.moves = []) : s.devicesMove = s := by
  rw [State.devicesMove, still]

theorem deviceWrite_of_still {s : State} (still : s.plat.moves = []) (addr : Word) (v : Byte) :
    s.deviceWrite addr v = s.follow (s.ruleFor addr (.write v)) := by
  rw [State.deviceWrite, devicesMove_of_still still]

/-- Where a device answers a read, or looks on, what memory there is behind it. -/
theorem platformRead_of_device {s : State} {addr : Word} (device : (s.kindAt addr).plain = false) :
    s.platformRead addr = s.deviceRead addr (if s.kindAt addr = .external then none else some (s.peek addr)) := by
  rw [State.platformRead]
  cases kind : s.kindAt addr with
  | ram | rom =>
    rw [kind] at device
    cases device
  | external | watchedRam | watchedRom => rfl

/-- A device's read gives the entry's answer, or else the byte of the memory behind it. -/
theorem deviceRead_of_byte {s : State} (still : s.plat.moves = []) {addr : Word} {behind : Option Byte} {a : Byte}
    (byte : ((s.ruleFor addr .read).bind (·.answer)).or behind = some a) :
    s.deviceRead addr behind = { val := a, st := s.follow (s.ruleFor addr .read) } := by
  simp only [State.deviceRead, devicesMove_of_still still, byte]

/-- With neither, the byte is any value. -/
theorem deviceRead_of_noByte {s : State} (still : s.plat.moves = []) {addr : Word} {behind : Option Byte}
    (noByte : ((s.ruleFor addr .read).bind (·.answer)).or behind = none) :
    ∃ a, s.deviceRead addr behind =
      { val := a, st := (s.follow (s.ruleFor addr .read)).setDraws ((s.follow (s.ruleFor addr .read)).draws + 1) } := by
  simp only [State.deviceRead, devicesMove_of_still still, noByte]
  exact ⟨_, rfl⟩

theorem follow_draws (s : State) (r : Option DeviceRule) : (s.follow r).draws = s.draws := by
  rw [State.follow_frame]
  rfl

/-! ## What memory keeps -/

theorem busWrite_notHeld {s : State} (free : s.notHeld) (addr : Word) (v : Byte) : (s.busWrite addr v).notHeld := by
  obtain ⟨high, unheld⟩ := free
  refine ⟨by rw [State.busWrite_resPin, high]; rfl, ?_⟩
  rw [State.busWrite_cfg, State.busWrite_halts]
  exact unheld

/-- A byte that RAM has kept is read back at every address that reaches its location, and the read changes nothing. -/
theorem busRead_busWrite_of_ram {s : State} {addr other : Word} (v : Byte) (inv : s.Inv) (free : s.notHeld)
    (ram : s.kindAt addr = .ram) (mirror : s.cellAt other = s.cellAt addr) (plain : (s.kindAt other).plain = true) :
    (s.busWrite addr v).busRead other = { val := v, st := s.busWrite addr v } := by
  have plat := State.busWrite_plat_of_plain s addr v (by rw [ram]; rfl)
  have kind := State.kindAt_congr (State.busWrite_cfg s addr v) (congrArg Platform.state plat) other
  rw [State.busRead_plain _ other (busWrite_notHeld free addr v) (by rw [kind, plain]),
    State.peek_busWrite_same s addr other v inv.1 free.1 ram mirror]

theorem platformWrite_rom {s : State} {addr : Word} (rom : s.kindAt addr = .rom) (v : Byte) :
    s.platformWrite addr v = s := by
  rw [State.platformWrite, rom]

theorem platformWrite_device {s : State} {addr : Word} (kind : s.kindAt addr = .external ∨ s.kindAt addr = .watchedRom)
    (v : Byte) : s.platformWrite addr v = s.deviceWrite addr v := by
  rw [State.platformWrite]
  obtain kind | kind := kind <;> rw [kind]

theorem platformWrite_watchedRam {s : State} {addr : Word} (kind : s.kindAt addr = .watchedRam) (v : Byte) :
    s.platformWrite addr v = (s.store addr v).deviceWrite addr v := by
  rw [State.platformWrite, kind]

/-! ## The obligation, clause by clause -/

section

variable {s : State} {addr : Word}

theorem busWrite_ram (high : s.resPin = .high) (ram : s.kindAt addr = .ram) (v : Byte) :
    (s.busWrite addr v).plat = s.plat ∧ (s.busWrite addr v).resPin = .high ∧
      (∀ other : Word, s.cellAt other ≠ s.cellAt addr → (s.busWrite addr v).peek other = s.peek other) ∧
      (s.Inv → ∀ other : Word, s.cellAt other = s.cellAt addr → (s.busWrite addr v).peek other = v ∧
        (s.notHeld → (s.kindAt other).plain = true →
          (s.busWrite addr v).busRead other = { val := v, st := s.busWrite addr v })) := by
  have plain : (s.kindAt addr).plain = true := by rw [ram]; rfl
  refine ⟨State.busWrite_plat_of_plain s addr v plain, by rw [State.busWrite_resPin, high]; rfl,
    fun other apart => State.peek_busWrite_other s addr other v plain apart, fun inv other mirror => ⟨?_, ?_⟩⟩
  · exact State.peek_busWrite_same s addr other v inv.1 high ram mirror
  · exact fun free plainOther => busRead_busWrite_of_ram v inv free ram mirror plainOther

theorem busRead_device (still : s.plat.moves = []) (free : s.notHeld) (device : (s.kindAt addr).plain = false) :
    let entry := s.ruleFor addr .read
    (∀ a, entry.bind (·.answer) = some a → s.busRead addr = { val := a, st := s.follow entry }) ∧
      (entry.bind (·.answer) = none → s.kindAt addr ≠ .external →
        s.busRead addr = { val := s.peek addr, st := s.follow entry }) ∧
      (entry.bind (·.answer) = none → s.kindAt addr = .external →
        ∃ a, s.busRead addr = { val := a, st := { s.follow entry with draws := s.draws + 1 } }) := by
  intro entry
  rw [State.busRead_of_notHeld s addr free, platformRead_of_device device]
  refine ⟨fun a answer => ?_, fun silent memory => ?_, fun silent external => ?_⟩
  · exact deviceRead_of_byte still (by rw [answer]; rfl)
  · rw [if_neg memory]
    exact deviceRead_of_byte still (by rw [silent]; rfl)
  · rw [if_pos external]
    obtain ⟨a, read⟩ := deviceRead_of_noByte (behind := none) still (by rw [silent]; rfl)
    rw [follow_draws] at read
    exact ⟨a, read⟩

end

/-- Settles O10: RES by `busWrite_of_inhibited` and `busWrite_of_made` and their like for reads; then the kinds of location,
RAM by `busWrite_ram`, a device's reads by `busRead_device`, the side effects of an entry by `follow_some`. -/
theorem writeKeptByRamOnly : Obligations.WriteKeptByRamOnly := by
  intro s addr v
  refine ⟨busWrite_only s addr v, fun falling => ?inhibited, fun n later => ?made, fun high => ?high⟩
  case inhibited =>
    have inhibited : s.resPin.next = .low := by
      obtain falling | falling := falling <;> rw [falling] <;> rfl
    exact ⟨busWrite_of_inhibited inhibited addr v, processorRead_of_inhibited inhibited addr⟩
  case made =>
    have next : s.resPin.next = .fallsAfter n := by rw [later]; rfl
    have made : s.resPin.next ≠ .low := by rw [next]; nofun
    rw [busWrite_of_made made, processorRead_of_made made, next]
    exact ⟨rfl, rfl⟩
  case high =>
    refine ⟨fun ram => busWrite_ram high ram v, fun rom => ?rom, fun still => ?write, fun still free device => ?read⟩
    case rom => rw [State.busWrite_of_high s addr v high, platformWrite_rom rom]
    case write =>
      rw [State.busWrite_of_high s addr v high]
      refine ⟨fun kind => ?device, fun kind => ?watched⟩
      case device =>
        rw [platformWrite_device kind, deviceWrite_of_still still]
        cases s.ruleFor addr (.write v) with
        | none => rfl
        | some r => exact follow_some s r
      case watched =>
        rw [platformWrite_watchedRam kind, deviceWrite_of_still (s := s.store addr v) still]
        have entry : (s.store addr v).ruleFor addr (.write v) = s.ruleFor addr (.write v) := rfl
        rw [entry]
        cases s.ruleFor addr (.write v) with
        | none => rfl
        | some r => exact follow_some (s.store addr v) r
    case read =>
      have read := busRead_device still free device
      revert read
      dsimp only
      cases s.ruleFor addr .read with
      | none => exact id
      | some r =>
        rw [follow_some]
        exact id

end Sys2Proof.Proofs
end

section
/-! PROOFS. The stack and the addressing modes that compute or read (20_memory.md R60, R61; 30_encoding.md R91 to R96): the
model's byte arithmetic is the claims', and what a push stores a pull gives back. -/

namespace Sys2Proof.Proofs

open Sys2Proof.Machine Sys2Proof.Claims

/-! ## The stack -/

theorem stackAddr_eq_stack (sp : Byte) : stackAddr sp = stack sp := by
  apply BitVec.eq_of_toNat_eq
  have := sp.isLt
  rw [stackAddr, mkWord_toNat, stack, BitVec.toNat_ofNat, Nat.mod_eq_of_lt (by omega)]
  rfl

theorem push_eq (s : State) (v : Byte) : s.push v = { s.busWrite (stack s.sp) v with sp := s.sp - 1 } := by
  rw [State.push, stackAddr_eq_stack]
  rfl

theorem pull_eq (s : State) : s.pull = { s with sp := s.sp + 1 }.busRead (stack (s.sp + 1)) := by
  rw [State.pull, stackAddr_eq_stack]
  rfl

/-- Settles O12: `push_eq` and `pull_eq`; a pull is a read, which while undisturbed keeps memory (`State.pull_kept`). -/
theorem stackPrimitives : Obligations.StackPrimitives := by
  intro s
  refine ⟨fun v => ?push, ?pull, fun u => (State.pull_kept s u).1⟩
  case push => rw [push_eq, sub_one_eq_ofNat]
  case pull => rw [pull_eq, add_one_eq_ofNat]

theorem push_notHeld {s : State} (free : s.notHeld) (v : Byte) : (s.push v).notHeld :=
  busWrite_notHeld free _ v

/-- A pull out of plain memory that nothing holds moves S and changes nothing else. -/
theorem pull_plain {s : State} (free : s.notHeld) (plain : (s.kindAt (stack (s.sp + 1))).plain = true) :
    s.pull = { val := s.peek (stack (s.sp + 1)), st := s.setSp (s.sp + 1) } := by
  rw [pull_eq]
  exact State.busRead_plain (s.setSp (s.sp + 1)) _ free plain

theorem setSp_of_eq {s : State} {v : Byte} (same : s.sp = v) : s.setSp v = s := by
  rw [← same]
  rfl

/-- After a push S is one less, so a pull reads at the address of the push, in the state the write left. -/
theorem pull_push (s : State) (v : Byte) : (s.push v).pull = (s.busWrite (stack s.sp) v).busRead (stack s.sp) := by
  have back : (s.push v).sp + 1 = s.sp := by rw [State.push_sp, BitVec.sub_add_cancel]
  have restored : ({ s.push v with sp := s.sp } : State) = s.busWrite (stack s.sp) v := by
    rw [push_eq]
    exact setSp_of_eq (State.busWrite_sp s (stack s.sp) v)
  rw [pull_eq, back, restored]

/-- Settles O13: a pull after a push reads the location just written (`pull_push`), which RAM has kept
(`busRead_busWrite_of_ram`). -/
theorem pullUndoesPush : Obligations.PullUndoesPush := by
  intro s v inv free ram
  rw [pull_push, busRead_busWrite_of_ram v inv free ram rfl (by rw [ram]; rfl)]
  exact ⟨rfl, rfl⟩

/-! ## Indexing -/

theorem add_zext_eq_ofNat (base : Word) (index : Byte) :
    base + zext index = BitVec.ofNat 16 ((base.toNat + index.toNat) % 65536) := by
  apply BitVec.eq_of_toNat_eq
  rw [BitVec.toNat_add, zext_toNat, BitVec.toNat_ofNat]
  omega

/-- The page changes exactly on a carry out of the low byte (R92). -/
theorem page_ne_iff (base : Word) (index : Byte) :
    (hi8 (base + zext index) != hi8 base) = decide (255 < base.toNat % 256 + index.toNat) := by
  have := base.isLt
  have := index.isLt
  rw [Bool.eq_iff_iff, bne_iff_ne, ne_eq, hi8_eq_iff, BitVec.toNat_add, zext_toNat, decide_eq_true_iff]
  omega

theorem indexed_eq (base : Word) (index : Byte) :
    indexed base index =
      (BitVec.ofNat 16 ((base.toNat + index.toNat) % 65536), decide (255 < base.toNat % 256 + index.toNat)) := by
  rw [indexed, page_ne_iff, add_zext_eq_ofNat]

/-- Settles O15, by `indexed_eq`. -/
theorem absoluteIndexedModes : Obligations.AbsoluteIndexedModes := by
  intro s w
  refine ⟨?x, ?y⟩
  case x => rw [State.locate, indexed_eq]
  case y => rw [State.locate, indexed_eq]

/-! ## Pointers in page zero -/

theorem zext_add_one (b : Byte) : zext (b + 1) = BitVec.ofNat 16 ((b.toNat + 1) % 256) :=
  zext_add b 1

theorem zeroPagePointer_eq (s : State) (b : Byte) :
    let lo := s.busRead (BitVec.ofNat 16 b.toNat)
    let hi := lo.st.busRead (BitVec.ofNat 16 ((b.toNat + 1) % 256))
    s.zeroPagePointer b = { ea := word hi.val lo.val, crossed := false, st := hi.st } := by
  rw [State.zeroPagePointer, zext_eq_ofNat, zext_add_one, mkWord_eq_word]

/-- Settles O16: both modes read their pointer by `zeroPagePointer_eq`; (indirect),Y then indexes it (`indexed_eq`). -/
theorem indirectModes : Obligations.IndirectModes := by
  intro s b
  refine ⟨?indX, ?indY⟩
  case indX =>
    have pointer := zeroPagePointer_eq s (b + s.x)
    rw [BitVec.toNat_add] at pointer
    exact pointer
  case indY =>
    intro lo hi sum
    have small := lo.val.isLt
    have y : (s.zeroPagePointer b).st.y = s.y := State.zeroPagePointer_y s b
    have base : (word hi.val lo.val).toNat = hi.val.toNat * 256 + lo.val.toNat := word_toNat _ _
    have low : (hi.val.toNat * 256 + lo.val.toNat) % 256 = lo.val.toNat := by omega
    have pointer : s.zeroPagePointer b = { ea := word hi.val lo.val, crossed := false, st := hi.st } :=
      zeroPagePointer_eq s b
    rw [State.locate, y, pointer, indexed_eq, base, low, Nat.add_assoc]

/-- Settles O17: an operand in memory is by definition one read at the effective address; the frame is
`State.operand_busOnly`, and while undisturbed `State.operand_kept`. -/
theorem operandReadOnce : Obligations.OperandReadOnce := by
  intro s addr
  exact ⟨rfl, State.operand_busOnly s (.mem addr), fun u => (State.operand_kept s (.mem addr) u).1⟩

end Sys2Proof.Proofs
end

section
/-! PROOFS. Jumps, subroutines, stack instructions and interrupts as sequences of accesses (43_branch_jump.md R169 to R171;
44_stack_flags_system.md R181 to R184, R193, R194; 60_exceptions.md R205). -/

namespace Sys2Proof.Proofs

open Sys2Proof.Machine Sys2Proof.Claims

/-! ## Byte order, in the claims' terms -/

theorem hi8_eq_high (w : Word) : hi8 w = high w :=
  BitVec.eq_of_toNat_eq ((hi8_toNat w).trans (high_toNat w).symm)

theorem lo8_eq_low (w : Word) : lo8 w = low w :=
  BitVec.eq_of_toNat_eq ((lo8_toNat w).trans (low_toNat w).symm)

theorem image_eq_statusByte (p : Flags) (b : Bool) : p.image b = statusByte p b := rfl

theorem ofByte_eq_statusFlags (v : Byte) : Flags.ofByte v = statusFlags v := by
  simp only [Flags.ofByte, statusFlags, bit_eq_digit]

theorem add_one_eq_ofNat_word (w : Word) : w + 1 = BitVec.ofNat 16 ((w.toNat + 1) % 65536) := by
  apply BitVec.eq_of_toNat_eq
  rw [BitVec.toNat_add, BitVec.toNat_ofNat, Nat.mod_mod]
  rfl

/-! ## Jumps -/

theorem nextPointerByte_next {s : State} (wrap : s.cfg.jmpIndWrap = .next) (w : Word) :
    s.nextPointerByte w = BitVec.ofNat 16 ((w.toNat + 1) % 65536) := by
  rw [State.nextPointerByte, wrap]
  exact add_one_eq_ofNat_word w

/-- The pointer's high byte at the first address of the same page (R169, log 18). -/
theorem nextPointerByte_samePage {s : State} (wrap : s.cfg.jmpIndWrap = .samePage) (w : Word) :
    s.nextPointerByte w = BitVec.ofNat 16 (w.toNat / 256 * 256 + (w.toNat + 1) % 256) := by
  have := w.isLt
  have one : (1 : Byte).toNat = 1 := rfl
  rw [State.nextPointerByte, wrap]
  apply BitVec.eq_of_toNat_eq
  rw [mkWord_toNat, hi8_toNat, BitVec.toNat_add, lo8_toNat, one, BitVec.toNat_ofNat]
  omega

theorem exec_jmpAbs (w : Word) (s : State) : exec (.jmpAbs w) s = .next ((s.advance 3 3).setPc w) := rfl

theorem exec_jmpInd (w : Word) (s : State) : exec (.jmpInd w) s = .next ((s.advance 3 5).jumpIndirect w) := rfl

/-- Settles O37: JMP absolute writes PC; JMP indirect reads its pointer's two bytes, the second where
`nextPointerByte_next` and `nextPointerByte_samePage` say. -/
theorem jumps : Obligations.Jumps := by
  intro w s
  refine ⟨⟨⟨rfl, rfl⟩, ?absolute⟩, ⟨rfl, rfl⟩, ?indirect⟩
  case absolute =>
    rw [exec_jmpAbs, advance_eq_started]
    rfl
  case indirect =>
    intro second lo hi
    have address : (started s 3 5).nextPointerByte w = BitVec.ofNat 16 second := by
      simp only [second]
      cases wrap : s.cfg.jmpIndWrap with
      | next => exact nextPointerByte_next wrap w
      | samePage => exact nextPointerByte_samePage wrap w
    rw [exec_jmpInd, advance_eq_started, State.jumpIndirect, address, mkWord_eq_word]
    rfl

/-! ## Pushes and pulls in a row -/

theorem sub_one_sub_one (sp : Byte) : sp - 1 - 1 = sp - 2 := BitVec.sub_sub sp 1 1

theorem sub_two_sub_one (sp : Byte) : sp - 2 - 1 = sp - 3 := BitVec.sub_sub sp 2 1

theorem add_one_add_one (sp : Byte) : sp + 1 + 1 = sp + 2 := BitVec.add_assoc sp 1 1

theorem add_two_add_one (sp : Byte) : sp + 2 + 1 = sp + 3 := BitVec.add_assoc sp 2 1

theorem push_push_eq (s : State) (v w : Byte) :
    let s1 : State := { s.busWrite (stack s.sp) v with sp := s.sp - 1 }
    (s.push v).push w = { s1.busWrite (stack (s.sp - 1)) w with sp := s.sp - 2 } := by
  rw [← sub_one_sub_one, push_eq (s.push v), push_eq s]

theorem push_push_push_eq (s : State) (v w x : Byte) :
    let s1 : State := { s.busWrite (stack s.sp) v with sp := s.sp - 1 }
    let s2 : State := { s1.busWrite (stack (s.sp - 1)) w with sp := s.sp - 2 }
    ((s.push v).push w).push x = { s2.busWrite (stack (s.sp - 2)) x with sp := s.sp - 3 } := by
  rw [← sub_two_sub_one, push_eq ((s.push v).push w), push_push_eq]

/-! ## Subroutines -/

theorem exec_jsr (w : Word) (s : State) : exec (.jsr w) s = .next ((s.advance 3 6).callSubroutine w) := rfl

theorem exec_rts (s : State) : exec .rts s = .next (s.advance 1 6).returnFromSubroutine := rfl

/-- JSR saves the address of its own last byte (R170). -/
theorem started_pc_sub_one (s : State) (n : Nat) :
    (started s 3 n).pc - 1 = BitVec.ofNat 16 ((s.pc.toNat + 2) % 65536) := by
  apply BitVec.eq_of_toNat_eq
  have one : (1 : Word).toNat = 1 := rfl
  rw [started, BitVec.toNat_sub, BitVec.toNat_ofNat, BitVec.toNat_ofNat, one]
  omega

theorem mkWord_add_one (hi lo : Byte) : mkWord hi lo + 1 = BitVec.ofNat 16 ((hi.toNat * 256 + lo.toNat + 1) % 65536) := by
  rw [add_one_eq_ofNat_word, mkWord_toNat]

theorem returnFromSubroutine_eq (s : State) :
    let lo := { s with sp := s.sp + 1 }.busRead (stack (s.sp + 1))
    let hi := { lo.st with sp := s.sp + 2 }.busRead (stack (s.sp + 2))
    s.returnFromSubroutine =
      { hi.st with pc := BitVec.ofNat 16 ((hi.val.toNat * 256 + lo.val.toNat + 1) % 65536) } := by
  have sp : s.pull.st.sp + 1 = s.sp + 2 := by rw [State.pull_sp, add_one_add_one]
  rw [State.returnFromSubroutine, pull_eq s.pull.st, sp, pull_eq s, mkWord_add_one]
  rfl

/-- Settles O38: JSR is two pushes (`push_push_eq`) of the word that `started_pc_sub_one` gives; RTS is
`returnFromSubroutine_eq`. -/
theorem subroutines : Obligations.Subroutines := by
  intro w s
  refine ⟨⟨⟨rfl, rfl⟩, ?jsr⟩, ⟨rfl, rfl⟩, ?rts⟩
  case jsr =>
    rw [exec_jsr, advance_eq_started, State.callSubroutine, started_pc_sub_one, hi8_eq_high, lo8_eq_low, push_push_eq]
    rfl
  case rts =>
    rw [exec_rts, advance_eq_started, returnFromSubroutine_eq]
    rfl

/-! ## PHA, PHP, PLA, PLP -/

theorem exec_pha (s : State) : exec .pha s = .next ((s.advance 1 3).push s.a) := rfl

theorem exec_php (s : State) : exec .php s = .next ((s.advance 1 3).push (s.p.image true)) := rfl

theorem exec_pla (s : State) : exec .pla s = .next (s.advance 1 4).pullA := rfl

theorem exec_plp (s : State) : exec .plp s = .next (s.advance 1 4).pullP := rfl

/-- Settles O40, by `push_eq` on the started state. -/
theorem pushInstructions : Obligations.PushInstructions := by
  intro s
  refine ⟨⟨⟨rfl, rfl⟩, ?pha⟩, ⟨rfl, rfl⟩, ?php⟩
  case pha =>
    rw [exec_pha, advance_eq_started, push_eq]
    rfl
  case php =>
    rw [exec_php, advance_eq_started, push_eq]
    rfl

/-- Settles O41: both read the stack byte (`pull_eq`); PLA loads it (`loadA_eq`), PLP takes its six flags
(`ofByte_eq_statusFlags`) and holds the mask. -/
theorem pullInstructions : Obligations.PullInstructions := by
  intro s r
  have pulled : (started s 1 4).pull = r := pull_eq (started s 1 4)
  have flags : r.st.p = s.p := by
    rw [← pulled, State.pull_p]
    rfl
  refine ⟨⟨⟨rfl, rfl⟩, ?pla⟩, ⟨rfl, rfl⟩, ?plp⟩
  case pla => rw [exec_pla, advance_eq_started, State.pullA_spec, pulled, ← State.loadA, loadA_eq, flags]
  case plp =>
    rw [exec_plp, advance_eq_started, State.pullP_spec, pulled, ofByte_eq_statusFlags]
    rfl

/-! ## Interrupts -/

theorem loadVector_eq (s : State) (vector : Word) :
    let lo := s.busRead vector
    let hi := lo.st.busRead (vector + 1)
    s.loadVector vector = { hi.st with pc := word hi.val lo.val } := by
  rw [State.loadVector, mkWord_eq_word]
  rfl

/-- Settles O46: three pushes (`push_push_push_eq`), the mask, and the vector (`loadVector_eq`). -/
theorem interruptSequence : Obligations.InterruptSequence := by
  intro s vector b s1 s2 s3 lo hi
  have pushed : ((s.push (hi8 s.pc)).push (lo8 s.pc)).push (s.p.image b) =
      { s2.busWrite (stack (s.sp - 2)) (statusByte s.p b) with sp := s.sp - 3 } := by
    rw [hi8_eq_high, lo8_eq_low, image_eq_statusByte, push_push_push_eq]
  have flags : (((s.push (hi8 s.pc)).push (lo8 s.pc)).push (s.p.image b)).p = s.p := by simp
  have masked : (((s.push (hi8 s.pc)).push (lo8 s.pc)).push (s.p.image b)).setP { s.p with i := true } = s3 := by
    rw [pushed]
    rfl
  simp only [State.interrupt, State.push_p]
  rw [masked, loadVector_eq]
  rfl

theorem setPriorMask_of_eq {s : State} {m : Option Bool} (same : s.priorMask = m) : s.setPriorMask m = s := by
  rw [← same]
  rfl

theorem exec_brk_eq_interrupt (s : State) :
    exec .brk s =
      .next ({ started s 1 7 with pc := BitVec.ofNat 16 ((s.pc.toNat + 2) % 65536) }.interrupt 0xFFFE true) := by
  have ret : s.pc + 2 = BitVec.ofNat 16 ((s.pc.toNat + 2) % 65536) := by
    apply BitVec.eq_of_toNat_eq
    rw [BitVec.toNat_add, BitVec.toNat_ofNat, Nat.mod_mod]
    rfl
  rw [← ret, ← advance_eq_started]
  rfl

/-- Settles O43: BRK is the interrupt sequence of O46; the mask that the sequence forgets its start has forgotten too. -/
theorem breakSequence : Obligations.Break := by
  intro s
  refine ⟨⟨rfl, rfl⟩, ?_⟩
  intro ret s0 s1 s2 s3 lo hi
  have forgotten : ({ hi.st with pc := word hi.val lo.val } : State).priorMask = none := by
    show hi.st.priorMask = none
    simp only [hi, lo, s3, s2, s1, State.busRead_priorMask, State.busWrite_priorMask]
    rfl
  have sequence := interruptSequence s0 0xFFFE true
  rw [exec_brk_eq_interrupt]
  refine congrArg _ (sequence.trans ?_)
  exact setPriorMask_of_eq forgotten

theorem exec_rti (s : State) : exec .rti s = .next (s.advance 1 6).returnFromInterrupt := rfl

/-- Three pulls, P first (R194). -/
theorem returnFromInterrupt_eq (s : State) :
    let st := { s with sp := s.sp + 1 }.busRead (stack (s.sp + 1))
    let lo := { st.st with sp := s.sp + 2, p := statusFlags st.val }.busRead (stack (s.sp + 2))
    let hi := { lo.st with sp := s.sp + 3 }.busRead (stack (s.sp + 3))
    s.returnFromInterrupt = { hi.st with pc := word hi.val lo.val } := by
  have second : (s.pull.st.setP (statusFlags s.pull.val)).sp + 1 = s.sp + 2 := by
    rw [State.setP_sp, State.pull_sp, add_one_add_one]
  have third : (s.pull.st.setP (statusFlags s.pull.val)).pull.st.sp + 1 = s.sp + 3 := by
    rw [State.pull_sp, second, add_two_add_one]
  simp only [State.returnFromInterrupt, ofByte_eq_statusFlags]
  rw [pull_eq (State.pull _).st, third, pull_eq (State.setP _ _), second, pull_eq s, mkWord_eq_word]
  rfl

/-- Settles O44, by `returnFromInterrupt_eq` on the started state. -/
theorem returnFromInterrupt : Obligations.ReturnFromInterrupt := by
  intro s
  refine ⟨⟨rfl, rfl⟩, ?_⟩
  rw [exec_rti, advance_eq_started, returnFromInterrupt_eq]
  rfl

end Sys2Proof.Proofs
end

section
/-! PROOFS. What was pushed comes back (43_branch_jump.md R172; 60_exceptions.md R205, R211, R215): on a stack in RAM that nothing
holds, the bytes JSR and the interrupt sequence push are what RTS and RTI pull. -/

namespace Sys2Proof.Proofs

open Sys2Proof.Machine Sys2Proof.Claims

section

variable {s : State}

/-! ## One push to RAM -/

theorem push_plat (ram : s.kindAt (stack s.sp) = .ram) (v : Byte) : (s.push v).plat = s.plat := by
  rw [push_eq]
  exact State.busWrite_plat_of_plain s (stack s.sp) v (by rw [ram]; rfl)

theorem push_kindAt (ram : s.kindAt (stack s.sp) = .ram) (v : Byte) (addr : Word) :
    (s.push v).kindAt addr = s.kindAt addr :=
  State.kindAt_congr (State.push_cfg s v) (congrArg Platform.state (push_plat ram v)) addr

theorem push_cellAt_of_ram (ram : s.kindAt (stack s.sp) = .ram) (v : Byte) (addr : Word) :
    (s.push v).cellAt addr = s.cellAt addr :=
  State.cellAt_congr (State.push_cfg s v) (congrArg Platform.state (push_plat ram v)) addr

theorem push_peek_self (inv : s.Inv) (free : s.notHeld) (ram : s.kindAt (stack s.sp) = .ram) (v : Byte) :
    (s.push v).peek (stack s.sp) = v := by
  rw [push_eq]
  exact State.peek_busWrite_same s (stack s.sp) (stack s.sp) v inv.1 free.1 ram rfl

theorem push_peek_apart (ram : s.kindAt (stack s.sp) = .ram) (v : Byte) {addr : Word}
    (apart : s.cellAt addr ≠ s.cellAt (stack s.sp)) : (s.push v).peek addr = s.peek addr := by
  rw [push_eq]
  exact State.peek_busWrite_other s (stack s.sp) addr v (by rw [ram]; rfl) apart

/-! ## Two pushes -/

/-- The two bytes below S lie in RAM, at two locations: what JSR needs. -/
structure TwoInRam (s : State) : Prop where
  first : s.kindAt (stack s.sp) = .ram
  second : s.kindAt (stack (s.sp - 1)) = .ram
  apart : s.cellAt (stack s.sp) ≠ s.cellAt (stack (s.sp - 1))

/-- After a push the second byte is the one S points to. -/
theorem TwoInRam.next (two : TwoInRam s) (v : Byte) : (s.push v).kindAt (stack (s.push v).sp) = .ram := by
  rw [push_kindAt two.first, State.push_sp, two.second]

theorem push_push_plat (two : TwoInRam s) (v w : Byte) : ((s.push v).push w).plat = s.plat := by
  rw [push_plat (two.next v), push_plat two.first]

theorem push_push_peek_first (two : TwoInRam s) (inv : s.Inv) (free : s.notHeld) (v w : Byte) :
    ((s.push v).push w).peek (stack s.sp) = v := by
  rw [push_peek_apart (two.next v), push_peek_self inv free two.first]
  rw [push_cellAt_of_ram two.first, push_cellAt_of_ram two.first, State.push_sp]
  exact two.apart

theorem push_push_peek_second (two : TwoInRam s) (inv : s.Inv) (free : s.notHeld) (v w : Byte) :
    ((s.push v).push w).peek (stack (s.sp - 1)) = w := by
  rw [← State.push_sp s v, push_peek_self (State.push_inv s v inv) (push_notHeld free v) (two.next v)]

theorem push_push_peek_apart (two : TwoInRam s) (v w : Byte) {addr : Word}
    (first : s.cellAt addr ≠ s.cellAt (stack s.sp)) (second : s.cellAt addr ≠ s.cellAt (stack (s.sp - 1))) :
    ((s.push v).push w).peek addr = s.peek addr := by
  rw [push_peek_apart (two.next v), push_peek_apart two.first v first]
  rw [push_cellAt_of_ram two.first, push_cellAt_of_ram two.first, State.push_sp]
  exact second

/-! ## Three pushes -/

/-- The state after the three pushes of the interrupt sequence. -/
abbrev framed (s : State) (b : Bool) : State := ((s.push (hi8 s.pc)).push (lo8 s.pc)).push (s.p.image b)

/-- The two bytes below the first lie in RAM as well. -/
theorem twoInRam_push (frame : frameInRam s) (v : Byte) : TwoInRam (s.push v) := by
  obtain ⟨first, second, third, -, -, apart⟩ := frame
  have low : (s.push v).sp - 1 = s.sp - 2 := by rw [State.push_sp, sub_one_sub_one]
  refine ⟨?_, ?_, ?_⟩
  · rw [push_kindAt first, State.push_sp, second]
  · rw [push_kindAt first, low, third]
  · rw [push_cellAt_of_ram first, push_cellAt_of_ram first, low, State.push_sp]
    exact apart

theorem framed_plat (frame : frameInRam s) (b : Bool) : (framed s b).plat = s.plat := by
  rw [framed, push_push_plat (twoInRam_push frame _), push_plat frame.1]

theorem framed_cfg (s : State) (b : Bool) : (framed s b).cfg = s.cfg := by
  simp [framed]

theorem framed_notHeld (free : s.notHeld) (b : Bool) : (framed s b).notHeld :=
  push_notHeld (push_notHeld (push_notHeld free _) _) _

/-- Below the frame no byte has changed, and the frame's own bytes are PC high, PC low and the status byte (R205). -/
theorem framed_peek_apart (frame : frameInRam s) (b : Bool) {addr : Word}
    (first : s.cellAt addr ≠ s.cellAt (stack s.sp)) (second : s.cellAt addr ≠ s.cellAt (stack (s.sp - 1)))
    (third : s.cellAt addr ≠ s.cellAt (stack (s.sp - 2))) : (framed s b).peek addr = s.peek addr := by
  have low : (s.push (hi8 s.pc)).sp - 1 = s.sp - 2 := by rw [State.push_sp, sub_one_sub_one]
  rw [framed, push_push_peek_apart (twoInRam_push frame _), push_peek_apart frame.1 _ first]
  · rw [push_cellAt_of_ram frame.1, push_cellAt_of_ram frame.1, State.push_sp]
    exact second
  · rw [push_cellAt_of_ram frame.1, push_cellAt_of_ram frame.1, low]
    exact third

theorem framed_peek_high (frame : frameInRam s) (inv : s.Inv) (free : s.notHeld) (b : Bool) :
    (framed s b).peek (stack s.sp) = hi8 s.pc := by
  obtain ⟨ram, -, -, second, third, -⟩ := id frame
  have low : (s.push (hi8 s.pc)).sp - 1 = s.sp - 2 := by rw [State.push_sp, sub_one_sub_one]
  rw [framed, push_push_peek_apart (twoInRam_push frame _), push_peek_self inv free ram]
  · rw [push_cellAt_of_ram ram, push_cellAt_of_ram ram, State.push_sp]
    exact second
  · rw [push_cellAt_of_ram ram, push_cellAt_of_ram ram, low]
    exact third

theorem framed_peek_low (frame : frameInRam s) (inv : s.Inv) (free : s.notHeld) (b : Bool) :
    (framed s b).peek (stack (s.sp - 1)) = lo8 s.pc := by
  have kept := push_push_peek_first (twoInRam_push frame (hi8 s.pc)) (State.push_inv s _ inv) (push_notHeld free _)
    (lo8 s.pc) (s.p.image b)
  rwa [State.push_sp] at kept

theorem framed_peek_status (frame : frameInRam s) (inv : s.Inv) (free : s.notHeld) (b : Bool) :
    (framed s b).peek (stack (s.sp - 2)) = s.p.image b := by
  have kept := push_push_peek_second (twoInRam_push frame (hi8 s.pc)) (State.push_inv s _ inv) (push_notHeld free _)
    (lo8 s.pc) (s.p.image b)
  rwa [State.push_sp, sub_one_sub_one] at kept

/-! ## The interrupt sequence on plain memory -/

/-- A vector in plain memory is read without a trace. -/
theorem loadVector_plain (free : s.notHeld) {vector : Word} (plain : vectorInMemory s vector) :
    ∃ w, s.loadVector vector = s.setPc w := by
  rw [State.loadVector, State.busRead_plain s vector free plain.1]
  dsimp only
  rw [State.busRead_plain s (vector + 1) free plain.2]
  exact ⟨_, rfl⟩

/-- The interrupt sequence leaves the frame, the mask, PC and S, and no mask held (R205). -/
theorem interrupt_eq_framed (free : s.notHeld) (frame : frameInRam s) {vector : Word}
    (plain : vectorInMemory s vector) (b : Bool) :
    ∃ w, s.interrupt vector b = (((framed s b).setP { s.p with i := true }).setPc w).setPriorMask none := by
  have kind (addr : Word) : (framed s b).kindAt addr = s.kindAt addr :=
    State.kindAt_congr (framed_cfg s b) (congrArg Platform.state (framed_plat frame b)) addr
  have vectorPlain : vectorInMemory ((framed s b).setP { s.p with i := true }) vector := by
    rw [vectorInMemory, State.kindAt_setP, State.kindAt_setP, kind, kind]
    exact plain
  obtain ⟨w, loaded⟩ := loadVector_plain (s := (framed s b).setP { s.p with i := true }) (framed_notHeld free b) vectorPlain
  refine ⟨w, ?_⟩
  rw [← loaded]
  simp only [State.interrupt, State.push_p, framed]

theorem framed_sp (s : State) (b : Bool) : (framed s b).sp + 1 = s.sp - 2 := by
  rw [framed, State.push_sp, BitVec.sub_add_cancel, State.push_sp, State.push_sp, sub_one_sub_one]

end

/-- Settles O47: the sequence leaves the frame (`interrupt_eq_framed`), whose bytes and whose surroundings are
`framed_peek_high`, `framed_peek_low`, `framed_peek_status` and `framed_peek_apart`. -/
theorem interruptFrame : Obligations.InterruptFrame := by
  intro s vector b inv free frame plain t
  obtain ⟨w, eq⟩ := interrupt_eq_framed free frame plain b
  have byte (addr : Word) : t.peek addr = (framed s b).peek addr := by
    rw [show t = _ from eq]
    rfl
  have sp : t.sp + 1 = s.sp - 2 := by
    rw [show t = _ from eq]
    exact framed_sp s b
  have status : t.peek (stack (t.sp + 1)) = s.p.image b := by
    rw [sp, byte, framed_peek_status frame inv free]
  obtain ⟨five, four⟩ := Flags.image_bits s.p b
  rw [bit_eq_digit] at five four
  refine ⟨?_, ?_, status, by rw [status, four], by rw [status, five], fun addr first second third => ?_⟩
  · rw [byte, framed_peek_high frame inv free, hi8_eq_high]
  · rw [byte, framed_peek_low frame inv free, lo8_eq_low]
  · rw [byte, framed_peek_apart frame b first second third]

/-! ## Returns from plain memory -/

/-- RTS out of plain memory that nothing holds. -/
theorem returnFromSubroutine_plain {s : State} (free : s.notHeld) (low : (s.kindAt (stack (s.sp + 1))).plain = true)
    (high : (s.kindAt (stack (s.sp + 2))).plain = true) :
    s.returnFromSubroutine = (s.setSp (s.sp + 2)).setPc
      (mkWord (s.peek (stack (s.sp + 2))) (s.peek (stack (s.sp + 1))) + 1) := by
  rw [← add_one_add_one] at high ⊢
  rw [State.returnFromSubroutine, pull_plain free low]
  dsimp only
  rw [pull_plain (s := s.setSp (s.sp + 1)) free high]
  rfl

/-- RTI out of plain memory that nothing holds. -/
theorem returnFromInterrupt_plain {s : State} (free : s.notHeld) (status : (s.kindAt (stack (s.sp + 1))).plain = true)
    (low : (s.kindAt (stack (s.sp + 2))).plain = true) (high : (s.kindAt (stack (s.sp + 3))).plain = true) :
    s.returnFromInterrupt = ((s.setSp (s.sp + 3)).setP (Flags.ofByte (s.peek (stack (s.sp + 1))))).setPc
      (mkWord (s.peek (stack (s.sp + 3))) (s.peek (stack (s.sp + 2)))) := by
  rw [← add_two_add_one, ← add_one_add_one] at high ⊢
  rw [← add_one_add_one] at low
  rw [State.returnFromInterrupt, pull_plain free status]
  dsimp only
  rw [pull_plain (s := (s.setSp (s.sp + 1)).setP _) free low]
  dsimp only [State.setP_sp, State.setSp_sp]
  rw [pull_plain (s := (((s.setSp (s.sp + 1)).setP _).setSp (s.sp + 1 + 1))) free high]
  rfl

theorem callSubroutine_eq (s : State) (w : Word) :
    s.callSubroutine w = ((s.push (hi8 (s.pc - 1))).push (lo8 (s.pc - 1))).setPc w := rfl

/-- The two states see the same memory, hold the same S and are held by nothing or by the same. -/
structure SameMemory (p t : State) : Prop where
  cfg : t.cfg = p.cfg
  plat : t.plat = p.plat
  mem : t.mem = p.mem
  sp : t.sp = p.sp
  resPin : t.resPin = p.resPin
  halts : t.halts = p.halts

section

variable {p t : State}

theorem SameMemory.kindAt (same : SameMemory p t) (addr : Word) : t.kindAt addr = p.kindAt addr :=
  State.kindAt_congr same.cfg (congrArg Platform.state same.plat) addr

theorem SameMemory.peek (same : SameMemory p t) (addr : Word) : t.peek addr = p.peek addr :=
  State.peek_congr same.cfg (congrArg Platform.state same.plat) same.mem addr

theorem SameMemory.notHeld (same : SameMemory p t) (free : p.notHeld) : t.notHeld := by
  rw [State.notHeld, same.resPin, same.cfg, same.halts]
  exact free

end

/-- RTS finds above S the two bytes JSR pushed, and comes back to where JSR left (R172). -/
theorem return_of_callSubroutine {s t : State} (two : TwoInRam s) (inv : s.Inv) (free : s.notHeld)
    (same : SameMemory ((s.push (hi8 (s.pc - 1))).push (lo8 (s.pc - 1))) t) :
    t.returnFromSubroutine = (t.setSp s.sp).setPc s.pc := by
  have low : t.sp + 1 = s.sp - 1 := by
    rw [same.sp, State.push_sp, BitVec.sub_add_cancel, State.push_sp]
  have high : t.sp + 2 = s.sp := by
    rw [← add_one_add_one, low, BitVec.sub_add_cancel]
  have kind (addr : Word) : t.kindAt addr = s.kindAt addr := by
    rw [same.kindAt, push_kindAt (two.next _), push_kindAt two.first]
  rw [returnFromSubroutine_plain (same.notHeld (push_notHeld (push_notHeld free _) _)), low, high, same.peek, same.peek,
    push_push_peek_second two inv free, push_push_peek_first two inv free, mkWord_hi8_lo8, BitVec.sub_add_cancel]
  · rw [kind, low, two.second]
    rfl
  · rw [kind, high, two.first]
    rfl

/-- Settles O39, by `return_of_callSubroutine` from the state JSR starts in. -/
theorem returnUndoesJump : Obligations.ReturnUndoesJump := by
  intro w s inv free first second apart
  have same : SameMemory (((s.advance 3 6).push (hi8 ((s.advance 3 6).pc - 1))).push (lo8 ((s.advance 3 6).pc - 1)))
      (((s.advance 3 6).callSubroutine w).advance 1 6) := by
    rw [callSubroutine_eq]
    exact ⟨by simp, by simp, by simp, by simp, by simp, by simp⟩
  refine ⟨_, _, exec_jsr w s, rfl, exec_rts _, ?_⟩
  rw [return_of_callSubroutine (s := s.advance 3 6) ⟨first, second, apart⟩ inv free same]
  refine ⟨advance_pc s 3 6, rfl, ?_, ?_, ?_, ?_⟩ <;> simp [callSubroutine_eq]

/-- RTI finds above S the frame of the interrupt sequence, and brings PC, S and P back (R211). -/
theorem return_of_interrupt {s t : State} (frame : frameInRam s) (inv : s.Inv) (free : s.notHeld) {b : Bool}
    (same : SameMemory (framed s b) t) :
    t.returnFromInterrupt = ((t.setSp s.sp).setP s.p).setPc s.pc := by
  obtain ⟨first, second, third, -⟩ := id frame
  have status : t.sp + 1 = s.sp - 2 := by
    rw [same.sp, framed_sp]
  have low : t.sp + 2 = s.sp - 1 := by
    rw [← add_one_add_one, status, ← sub_one_sub_one, BitVec.sub_add_cancel]
  have high : t.sp + 3 = s.sp := by
    rw [← add_two_add_one, low, BitVec.sub_add_cancel]
  have kind (addr : Word) : t.kindAt addr = s.kindAt addr :=
    (same.kindAt addr).trans (State.kindAt_congr (framed_cfg s b) (congrArg Platform.state (framed_plat frame b)) addr)
  rw [returnFromInterrupt_plain (same.notHeld (framed_notHeld free b)), status, low, high, same.peek, same.peek, same.peek,
    framed_peek_status frame inv free, framed_peek_low frame inv free, framed_peek_high frame inv free, mkWord_hi8_lo8,
    Flags.ofByte_image]
  · rw [kind, status, third]
    rfl
  · rw [kind, low, second]
    rfl
  · rw [kind, high, first]
    rfl

/-- Settles O48, by `return_of_interrupt`: the sequence leaves A, X and Y alone. -/
theorem returnUndoesInterrupt : Obligations.ReturnUndoesInterrupt := by
  intro s vector b inv free frame plain
  have same : SameMemory (framed s b) ((s.interrupt vector b).advance 1 6) := by
    obtain ⟨w, eq⟩ := interrupt_eq_framed free frame plain b
    rw [eq]
    exact ⟨by simp, by simp, by simp, by simp, by simp, by simp⟩
  refine ⟨_, exec_rti _, ?_⟩
  rw [return_of_interrupt frame inv free same]
  exact ⟨rfl, rfl, rfl, by simp, by simp, by simp⟩

end Sys2Proof.Proofs
end

section
/-! PROOFS. The opcodes that are defined (30_encoding.md R100, R107), and the saved status byte (10_state.md R38). -/

namespace Sys2Proof.Proofs

open Sys2Proof.Machine Sys2Proof.Claims

/-! ## The defined opcodes -/

/-- The table of opcodes and the grid agree on every byte. -/
theorem opcodeLength_isSome_table :
    ∀ n < 256, (opcodeLength (BitVec.ofNat 8 n)).isSome = definedOpcodes.contains n := by
  decide +kernel

theorem opcodeLength_eq_none_iff (op : Byte) : opcodeLength op = none ↔ op.toNat ∉ definedOpcodes := by
  have agree := opcodeLength_isSome_table op.toNat op.isLt
  rw [BitVec.ofNat_toNat, BitVec.setWidth_eq] at agree
  rw [← Option.not_isSome_iff_eq_none, agree, List.contains_iff_mem]

theorem low_bits_of_mem_definedOpcodes {n : Nat} (defined : n ∈ definedOpcodes) : n % 4 ≠ 3 := by
  have all : definedOpcodes.all (fun n => n % 4 != 3) = true := by decide +kernel
  simpa using List.all_eq_true.1 all n defined

/-- Settles O3: a fetch that reads an undefined opcode faults (`fetch_of_undefinedOpcode`), and the end of the step adds
nothing to a fault. -/
theorem undefinedOpcodeFaults : Obligations.UndefinedOpcodeFaults := by
  refine ⟨rfl, opcodeLength_eq_none_iff, fun op low => ?_, fun s t polled up undefined => ?_⟩
  · rw [opcodeLength_eq_none_iff]
    exact fun defined => low_bits_of_mem_definedOpcodes defined low
  · have fetched := fetch_of_undefinedOpcode up ((opcodeLength_eq_none_iff _).2 undefined)
    rw [step_eq_ended, run_of_undefinedOpcode polled fetched]
    rfl

/-! ## The saved status byte -/

theorem toNat_digit (v : Byte) (k : Nat) : (digit v k).toNat = v.toNat / 2 ^ k % 2 := by
  obtain zero | one := Nat.mod_two_eq_zero_or_one (v.toNat / 2 ^ k)
  · rw [digit, zero]
    rfl
  · rw [digit, one]
    rfl

/-- Loading a byte and saving it again sets bit 5 and takes bit 4 from the argument. -/
theorem image_statusFlags (v : Byte) :
    (statusFlags v).image (digit v 4) = BitVec.ofNat 8 (v.toNat + (if digit v 5 then 0 else 32)) := by
  have bound := v.isLt
  have five : (if digit v 5 then 0 else 32) = 32 - 32 * (digit v 5).toNat := by
    cases digit v 5 <;> rfl
  simp only [Flags.image, statusFlags, five, toNat_digit]
  congr 1
  omega

/-- Settles O45, by the laws of packing and unpacking P. -/
theorem statusByte : Obligations.StatusByte := by
  refine ⟨fun p b => ?_, fun v => ⟨ofByte_eq_statusFlags v, ?_⟩⟩
  · obtain ⟨five, four⟩ := Flags.image_bits p b
    rw [bit_eq_digit] at five four
    exact ⟨image_eq_statusByte p b, Flags.ofByte_image p b, five, four⟩
  · rw [ofByte_eq_statusFlags, image_statusFlags]

end Sys2Proof.Proofs
end

section
/-! PROOFS. A jump to itself with nothing asserted (60_exceptions.md R230): one step of it is a step in place. -/

namespace Sys2Proof.Proofs

open Sys2Proof.Machine Sys2Proof.Claims

section

variable {s : State}

theorem due_of_quiet (quiet : s.quiet) : due s = {} := by
  rw [due, quiet.1]

/-- With nothing asserted and no NMI pending, the boundary changes nothing. -/
theorem sampled_of_quiet (quiet : s.quiet) (noNmi : s.nmiPending = false) : sampled s = s := by
  have nothing := due_of_quiet quiet
  obtain ⟨noInput, -, high, -⟩ := quiet
  cases s
  dsimp only at noInput high noNmi
  subst noInput high noNmi
  simp [sampled, arrived, nothing, resDuring]

theorem noEvent_of_quiet (quiet : s.quiet) (noNmi : s.nmiPending = false) : noEvent s := by
  have nothing := due_of_quiet quiet
  obtain ⟨-, -, -, noRequest, -⟩ := quiet
  refine ⟨by rw [nothing], by rw [nothing], ?_, ?_⟩
  · rw [sampled, nothing, noNmi]
    simp
  · simp [irqTaken, arrived, nothing, noRequest]

/-- One turn of a jump to itself: three cycles pass, and no mask is held from an earlier instruction. -/
abbrev turned (s : State) : State := { s with cycles := s.cycles + 3, priorMask := none }

theorem step_of_selfJump (quiet : s.quiet) (noNmi : s.nmiPending = false) (holds : holdsInstruction s (.jmpAbs s.pc)) :
    step s = .next (turned s) := by
  have same := sampled_of_quiet quiet noNmi
  have free : (sampled s).notHeld := by
    rw [same]
    exact ⟨quiet.2.2.1, .inr quiet.2.1⟩
  have ran := stepExecutesMemory s (.jmpAbs s.pc) (noEvent_of_quiet quiet noNmi) free (by rwa [same])
  rw [same, exec_jmpAbs, endStep_eq_ended] at ran
  have nothing : s.currentInputs.cuts = [] := by
    rw [currentInputs_eq_due, due_of_quiet quiet]
  obtain ⟨-, -, high, -, still⟩ := quiet
  rw [ran, State.endStep_of_still ((s.advance 3 3).setPc s.pc) s nothing still, ← high]
  rfl

end

/-- Settles O60, by induction on the number of steps: after one step (`step_of_selfJump`) the machine stands where it stood. -/
theorem jumpToSelfNeverEnds : Obligations.JumpToSelfNeverEnds := by
  intro s k quiet noNmi holds
  induction k generalizing s with
  | zero => exact ⟨_, rfl, rfl⟩
  | succ k ih =>
    obtain ⟨t, steps, eq⟩ := ih (turned s) quiet noNmi holds
    refine ⟨t, ?_, ?_⟩
    · rw [stepTimes, step_of_selfJump quiet noNmi holds]
      exact steps
    · rw [eq, ite_self, if_neg k.succ_ne_zero, Nat.mul_succ, Nat.add_comm (3 * k) 3, ← Nat.add_assoc]

end Sys2Proof.Proofs
end

section
/-! PROOFS. The reset sequence (70_reset_and_hazards.md R240 to R243), and a RES that falls in the middle of a step
(60_exceptions.md R217). -/

namespace Sys2Proof.Proofs

open Sys2Proof.Machine Sys2Proof.Claims

section

variable {s : State}

/-! ## The sequence -/

theorem resetSequence_eq (s : State) (w : ResetDraw) :
    let s1 : State := { s with
      a := w.a, x := w.x, y := w.y, sp := w.s
      p := { n := w.n, v := w.v, d := w.d, i := true, z := w.z, c := w.c }, nmiPending := false, priorMask := none }
    let lo := s1.processorRead 0xFFFC
    let hi := lo.st.processorRead 0xFFFD
    s.resetSequence w = { hi.st with pc := word hi.val lo.val, cycles := s.cycles + 8 } := by
  intro s1 lo hi
  have counted : hi.st.cycles = s.cycles := by
    simp only [hi, lo, State.processorRead_cycles, s1]
  rw [← counted, ← mkWord_eq_word]
  rfl

/-- A read of plain memory by the processor changes neither memory nor the devices, RES low or high. -/
theorem processorRead_of_plain {addr : Word} (plain : (s.kindAt addr).plain = true) :
    (s.processorRead addr).st.mem = s.mem ∧ (s.processorRead addr).st.plat = s.plat := by
  obtain inhibited | made := State.processorRead_cases s addr
  · rw [inhibited]
    exact ⟨rfl, rfl⟩
  · rw [made, State.platformRead_plain (s.setResPin s.resPin.next) addr plain]
    exact ⟨rfl, rfl⟩

/-- The reset sequence writes nothing (R243); with its vector in plain memory it changes no byte. -/
theorem resetSequence_mem_of_vector (w : ResetDraw) (vector : vectorInMemory s 0xFFFC) :
    (s.resetSequence w).mem = s.mem := by
  rw [resetSequence_eq]
  generalize read : ({ s with
    a := w.a, x := w.x, y := w.y, sp := w.s
    p := { n := w.n, v := w.v, d := w.d, i := true, z := w.z, c := w.c }
    nmiPending := false, priorMask := none } : State) = s1
  have cfg : s1.cfg = s.cfg := by rw [← read]
  have plat : s1.plat = s.plat := by rw [← read]
  have mem : s1.mem = s.mem := by rw [← read]
  have low : (s1.kindAt 0xFFFC).plain = true := by
    rw [State.kindAt_congr cfg (congrArg Platform.state plat)]
    exact vector.1
  obtain ⟨lowMem, lowPlat⟩ := processorRead_of_plain low
  have high : ((s1.processorRead 0xFFFC).st.kindAt 0xFFFD).plain = true := by
    rw [State.kindAt_congr ((State.processorRead_cfg s1 _).trans cfg) (congrArg Platform.state (lowPlat.trans plat))]
    exact vector.2
  exact (processorRead_of_plain high).1.trans (lowMem.trans mem)

/-! ## A reset in the middle of a step -/

/-- The state is one that the reset sequence has left, with its draw (R240, R241). -/
structure ResetTo (w : ResetDraw) (t : State) : Prop where
  a : t.a = w.a
  x : t.x = w.x
  y : t.y = w.y
  sp : t.sp = w.s
  p : t.p = w.flags
  nmiPending : t.nmiPending = false
  priorMask : t.priorMask = none

theorem resetTo_resetSequence (s : State) (w : ResetDraw) : ResetTo w (s.resetSequence w) := by
  constructor <;> simp

/-- The last of the resets that cut a step short is the one whose draw is left. -/
theorem resetTo_afterCuts {last : ResetCut} (start : Nat) (cuts : List ResetCut) (isLast : cuts.getLast? = some last) :
    ResetTo last.draw (s.afterCuts start cuts) := by
  induction cuts generalizing s start with
  | nil => cases isLast
  | cons cut rest ih =>
    cases rest with
    | nil =>
      cases isLast
      exact resetTo_resetSequence _ _
    | cons next others =>
      rw [List.getLast?_cons_cons] at isLast
      rw [State.afterCuts]
      exact ih _ isLast

theorem afterCuts_inputs (start : Nat) (cuts : List ResetCut) : (s.afterCuts start cuts).inputs = s.inputs := by
  induction cuts generalizing s start with
  | nil => rfl
  | cons cut rest ih => exact (ih _).trans (State.resetSequence_inputs _ _)

/-- Devices that are passive let the resets of a step change no byte. -/
theorem afterCuts_mem (start : Nat) (cuts : List ResetCut) (passive : s.devicesPassive) :
    (s.afterCuts start cuts).mem = s.mem := by
  induction cuts generalizing s start with
  | nil => rfl
  | cons cut rest ih =>
    obtain ⟨mem, -, still⟩ := State.resetSequence_passive
      (({ s with cycles := start + cut.cycles }.platformMoved cut.devices).setResPin (resPinOf rest)) cut.draw passive
    exact (ih _ still).trans mem

/-! ## A reset that forestalls the step's first access -/

theorem push_of_inhibited (low : s.resPin.next = .low) (v : Byte) : (s.push v).mem = s.mem := by
  rw [push_eq, busWrite_of_inhibited low]
  rfl

theorem push_inhibited (low : s.resPin.next = .low) (v : Byte) : (s.push v).resPin.next = .low := by
  rw [State.push_resPin, low]
  rfl

/-- The interrupt sequence, RES low before its first push, saves nothing. -/
theorem interrupt_of_inhibited (low : s.resPin.next = .low) (undisturbed : s.undisturbed) (vector : Word) (b : Bool) :
    (s.interrupt vector b).mem = s.mem ∧ (s.interrupt vector b).devicesPassive := by
  have once := push_inhibited low (hi8 s.pc)
  have twice := push_inhibited once (lo8 s.pc)
  have pushed : (framed s b).undisturbed :=
    (State.push_undisturbed _ _ (State.push_undisturbed _ _ (State.push_undisturbed s _ undisturbed).2).2).2
  have mem : (framed s b).mem = s.mem := by
    rw [framed, push_of_inhibited twice, push_of_inhibited once, push_of_inhibited low]
  have loaded := State.busRead_kept ((framed s b).setP { (framed s b).p with i := true }) vector pushed
  have kept := loaded.trans (State.busRead_kept _ (vector + 1) loaded.2.2)
  exact ⟨kept.1.trans mem, kept.2.2.2⟩

/-- What a boundary starts with RES low before the first access changes no byte. -/
theorem Starts.mem_of_inhibited {t : State} (starts : Starts s t) (low : (sampled s).resPin.next = .low)
    (undisturbed : s.undisturbed) : t.mem = s.mem ∧ t.devicesPassive := by
  have settled : (sampled s).undisturbed := undisturbed
  cases starts with
  | @reset draw due =>
    obtain ⟨mem, -, still⟩ := State.resetSequence_passive (arrived s) draw settled.2
    exact ⟨mem, still⟩
  | nmi noReset pending =>
    exact interrupt_of_inhibited (s := ((sampled s).setNmiPending false).tick 7) low settled _ _
  | irq noReset noNmi => exact interrupt_of_inhibited (s := (sampled s).tick 7) low settled _ _
  | cutShort noReset noNmi fetched =>
    obtain ⟨mem, -, still⟩ := (State.fetch_spec _ _ (.inl fetched)).2.2 settled
    exact ⟨mem, still.2⟩
  | instr noReset noNmi fetched meaning =>
    rw [fetch_of_resLow (by rw [State.busRead_resPin, low])] at fetched
    cases fetched

theorem eq_sampled_of_poll {t : State} (polled : s.poll = .execute t) : t = sampled s := by
  cases reset : (due s).res with
  | some draw =>
    rw [poll_of_reset reset] at polled
    cases polled
  | none =>
    rw [poll_of_noReset reset] at polled
    split at polled
    · cases polled
    · split at polled
      · cases polled
      · cases polled
        rfl

/-- A step whose first access RES forestalls fetches nothing, so no undefined opcode stops it. -/
theorem step_of_inhibited (low : (sampled s).resPin.next = .low) : ∃ t, step s = .next t := by
  rw [step_eq_ended]
  cases polled : s.poll with
  | event t => exact ⟨_, by rw [run_of_event polled, endStep_eq_ended]⟩
  | execute t =>
    have cut : (t.busRead t.pc).st.resPin = .low := by
      rw [State.busRead_resPin, eq_sampled_of_poll polled, low]
    exact ⟨_, by rw [run_of_cutShort polled (fetch_of_resLow cut), endStep_eq_ended]⟩

end

/-- Settles O53: the sequence is `resetSequence_eq`, its memory `State.resetSequence_passive` or
`resetSequence_mem_of_vector`; a reset in the middle of a step is `resetTo_afterCuts`, one that forestalls its first access
`step_of_inhibited` and `Starts.mem_of_inhibited`. -/
theorem resetSequence : Obligations.ResetSequence := by
  refine ⟨fun s w => ⟨resetSequence_eq s w, ?memory⟩, fun s =>
    ⟨fun last t isLast stepped => ?cut, fun first rest cuts zero => ?forestalled⟩⟩
  case memory =>
    rintro (passive | vector)
    · exact (State.resetSequence_passive s w passive).1
    · exact resetSequence_mem_of_vector w vector
  case cut =>
    obtain ⟨u, starts, rfl⟩ := starts_of_step stepped
    obtain ⟨cfg, inputs⟩ := starts.cfg_inputs
    rw [← currentInputs_eq_due] at isLast
    obtain ⟨a, x, y, sp, p, nmi, mask⟩ := resetTo_afterCuts (s := u) s.cycles s.currentInputs.cuts isLast
    exact ⟨a, x, y, sp, p, nmi, mask, (afterCuts_inputs _ _).trans inputs, (State.endStep_cfg u s).trans cfg,
      State.endStep_resPin u s⟩
  case forestalled =>
    have low : (sampled s).resPin.next = .low := by
      rw [sampled, arrived, cuts, resDuring, zero]
      rfl
    obtain ⟨t, stepped⟩ := step_of_inhibited low
    refine ⟨t, stepped, fun undisturbed => ?_⟩
    obtain ⟨u, starts, rfl⟩ := starts_of_step stepped
    obtain ⟨mem, passive⟩ := starts.mem_of_inhibited low undisturbed
    exact (afterCuts_mem s.cycles s.currentInputs.cuts passive).trans mem

end Sys2Proof.Proofs
end
